-- ==== Sys2Proof/Word.lean ====
section
/-! DEFINITION. The word types of the engine: bytes, 32-bit words, and byte sequences (00_scope R19, R21). -/

namespace Sys2Proof

/-- `u8` (R19): one byte of memory or of a stream. -/
abbrev Byte := BitVec 8

/-- `u32` (R19): a register, a bus address or a command word. -/
abbrev Word := BitVec 32

/-- `Bytes` (R21): a finite list of bytes, element 0 first. -/
abbrev Bytes := List Byte

end Sys2Proof
end

