-- ==== Sys2Proof/Machine/Kinds.lean ====
section
/-! DEFINITION. The error kinds and their codes (60_exceptions R451), the result type of a pipeline stage (00_scope
R23, R24), and the names of predictors, filter types and strategies (30_encoding R129, R133, R134). -/

namespace Sys2Proof.Machine

/-- The failure kinds of R451, in the order of their codes 1 to 10. -/
inductive ErrKind where
  | badMagic
  | unsupportedMethod
  | truncatedPayload
  | paletteOverflow
  | allCandidatesFailed
  | corruptPayload
  | illegalCommand
  | bufferError
  | dimensionError
  | resourceLimit
  deriving DecidableEq, Repr

/-- `code(K)`, the STATUS.ERRCODE value of a kind (R451). -/
def errCode : ErrKind → BitVec 4
  | .badMagic => 1
  | .unsupportedMethod => 2
  | .truncatedPayload => 3
  | .paletteOverflow => 4
  | .allCandidatesFailed => 5
  | .corruptPayload => 6
  | .illegalCommand => 7
  | .bufferError => 8
  | .dimensionError => 9
  | .resourceLimit => 10

/-- `ok v` or `err K` (R23). -/
abbrev Res (α : Type) := Except ErrKind α

/-- The delta predictor variants (R133). -/
inductive Variant where
  | delta
  | avg
  | paeth
  deriving DecidableEq, Repr

/-- The predictor tag and M value of a variant (R133). -/
def Variant.code : Variant → Nat
  | .delta => 0
  | .avg => 1
  | .paeth => 2

/-- The variant of a method-4 tag; 3 to 255 are invalid (R125). -/
def variantOf (tag : Nat) : Option Variant :=
  match tag with
  | 0 => some .delta
  | 1 => some .avg
  | 2 => some .paeth
  | _ => none

/-- The row filter types (R129). -/
inductive Filter where
  | none
  | sub
  | up
  | average
  | paeth
  deriving DecidableEq, Repr

/-- The row tag of a filter type (R129). -/
def Filter.tag : Filter → Byte
  | .none => 0
  | .sub => 1
  | .up => 2
  | .average => 3
  | .paeth => 4

/-- The filter type of a row tag; 5 to 255 are invalid (R129, R251). -/
def filterOf (tag : Byte) : Option Filter :=
  match tag.toNat with
  | 0 => some .none
  | 1 => some .sub
  | 2 => some .up
  | 3 => some .average
  | 4 => some .paeth
  | _ => Option.none

/-- The entropy strategies (R134). -/
inductive Strategy where
  | default
  | filtered
  | huffmanOnly
  deriving DecidableEq, Repr

/-- The index of a strategy (R134). -/
def Strategy.code : Strategy → Nat
  | .default => 0
  | .filtered => 1
  | .huffmanOnly => 2

end Sys2Proof.Machine
end

