-- ==== Sys2Proof/Machine/Bytes.lean ====
section
/-! DEFINITION. Byte sequences, byte order and pixel lists (00_scope R19 to R22), and the choice of the smallest
candidate (R25). -/

namespace Sys2Proof.Machine

/-- The byte `n mod 256` (R19). -/
def byteOf (n : Nat) : Byte := BitVec.ofNat 8 n

/-- `zeros(n)` (R21). -/
def zeros (n : Nat) : Bytes := List.replicate n 0

/-- `repeat(s, k)`: s concatenated k times (R21). -/
def repeatBytes (s : Bytes) : Nat → Bytes
  | 0 => []
  | k + 1 => s ++ repeatBytes s k

/-- `u16le(v)` (R21). -/
def u16le (v : Nat) : Bytes := [byteOf v, byteOf (v / 256)]

/-- `u32be(v)` (R21). -/
def u32be (v : Nat) : Bytes := [byteOf (v / 2 ^ 24), byteOf (v / 2 ^ 16), byteOf (v / 2 ^ 8), byteOf v]

/-- The value of a little-endian byte sequence (20_memory R89). -/
def leValue : Bytes → Nat
  | [] => 0
  | b :: bs => b.toNat + 256 * leValue bs

/-- The four bytes of a register, bits 7:0 first (20_memory R89). -/
def wordBytes (w : Word) : Bytes :=
  [byteOf w.toNat, byteOf (w.toNat / 2 ^ 8), byteOf (w.toNat / 2 ^ 16), byteOf (w.toNat / 2 ^ 24)]

/-- The register value of four little-endian bytes (20_memory R89). -/
def wordOfBytes (bs : Bytes) : Word := BitVec.ofNat 32 (leValue bs)

/-- Byte i of a sequence as an integer, 0 past its end. The stage rules never read past the end. -/
def natAt (X : Bytes) (i : Nat) : Nat := (X.getD i 0).toNat

/-- The bytes `s[a .. a+n)` (R21). -/
def slice (s : Bytes) (a n : Nat) : Bytes := (s.drop a).take n

/-- `px(R, C)`: the whole C-byte pixels of R; trailing bytes fewer than C form no pixel (R22). -/
def px (R : Bytes) (C : Nat) : List Bytes :=
  (List.range (R.length / C)).map fun j => slice R (j * C) C

/-- The candidate of least size, the first of them where sizes are equal; `none` if no candidate succeeded.
`cands` lists the candidates in increasing order of their index (R25). -/
def argmin {α : Type} (size : α → Nat) : List α → Option α
  | [] => none
  | a :: as =>
    match argmin size as with
    | none => some a
    | some b => if size b < size a then some b else some a

/-- The successful candidates of a trial, in order (R25, R452). -/
def successes {α β : Type} : List (α × Res β) → List (α × β)
  | [] => []
  | (k, .ok v) :: rest => (k, v) :: successes rest
  | (_, .error _) :: rest => successes rest

/-- The kind a trial fails with when every candidate of it failed: that of the first (44_method_catalog R344). -/
def firstKind {α β : Type} : List (α × Res β) → ErrKind
  | [] => .resourceLimit
  | (_, .error k) :: _ => k
  | (_, .ok _) :: rest => firstKind rest

/-- A trial over encodings: the shortest, ties to the lowest index (R25, decisions D23 and D44). -/
def bestOf {α : Type} (trials : List (α × Res Bytes)) : Res (α × Bytes) :=
  match argmin (fun c => c.2.length) (successes trials) with
  | some c => .ok c
  | none => .error (firstKind trials)

end Sys2Proof.Machine
end

