-- ==== Sys2Proof/Machine/Inflate.lean ====
section
/-! DEFINITION. The entropy decoder ZDECODE: the zlib stream with DEFLATE data (43_entropy_stage R281 to R304), and
the reference encoder REF_STORED (R310). -/

namespace Sys2Proof.Machine

/-! ## Bits (R282) -/

/-- The bit reader of R282: `rest` is the input from byte floor(bp/8) on, `off` is bp mod 8. -/
structure Reader where
  rest : Bytes
  off : Nat
  deriving DecidableEq, Repr

/-- `getbit()`: the least significant bit of each byte first; past the end, TRUNCATED_PAYLOAD (R282). -/
def getbit (r : Reader) : Res (Nat × Reader) :=
  match r.rest with
  | [] => .error .truncatedPayload
  | b :: tl =>
    .ok ((b.getLsbD r.off).toNat, if r.off = 7 then { rest := tl, off := 0 } else { r with off := r.off + 1 })

/-- `getbits(n)`: a number read least significant bit first (R282). -/
def getbits : Nat → Reader → Res (Nat × Reader)
  | 0, r => .ok (0, r)
  | n + 1, r => do
    let (b, r) ← getbit r
    let (v, r) ← getbits n r
    .ok (b + 2 * v, r)

/-- `align()`: skip to the next byte boundary (R282). -/
def align (r : Reader) : Reader := if r.off = 0 then r else { rest := r.rest.tail, off := 0 }

/-! ## Huffman codes (R283, R284, R285) -/

/-- An assigned pair `(len, code) → sym` (R283). -/
structure HuffEntry where
  len : Nat
  code : Nat
  sym : Nat
  deriving DecidableEq, Repr

/-- A code: its assigned pairs. -/
abbrev HuffCode := List HuffEntry

/-- The symbol assigned to `(len, code)`, if any. -/
def huffSymbol (T : HuffCode) (len code : Nat) : Option Nat :=
  (T.find? fun e => e.len == len && e.code == code).map HuffEntry.sym

/-- Whether some longer code starts with these bits (R283). -/
def huffLive (T : HuffCode) (len code : Nat) : Bool :=
  T.any fun e => decide (len < e.len) && (e.code >>> (e.len - len) == code)

/-- The loop of DECODE: `fuel` is 16, since no code has more than 15 bits (R283). -/
def huffLoop (T : HuffCode) : Nat → Nat → Nat → Reader → Res (Nat × Reader)
  | 0, _, _, _ => .error .corruptPayload
  | fuel + 1, len, code, r =>
    match huffSymbol T len code with
    | some s => .ok (s, r)
    | none =>
      if huffLive T len code then do
        let (b, r) ← getbit r
        huffLoop T fuel (len + 1) (2 * code + b) r
      else .error .corruptPayload

/-- `DECODE(T)` (R283). -/
def huffDecode (T : HuffCode) (r : Reader) : Res (Nat × Reader) := huffLoop T 16 0 0 r

/-- Which code a set of lengths is for (R284). -/
inductive HuffKind where
  | codeLengths
  | literals
  | distances
  deriving DecidableEq, Repr

/-- `cnt[l]`, the number of symbols of length l, 0 for l = 0 (R284). -/
def lenCount (lens : List Nat) (l : Nat) : Nat := if l = 0 then 0 else lens.count l

/-- `left` after the lengths `ls`, or none once it falls below 0: the code is over-subscribed (R284). -/
def huffLeft (lens : List Nat) : List Nat → Nat → Option Nat
  | [], left => some left
  | l :: ls, left =>
    if 2 * left < lenCount lens l then none else huffLeft lens ls (2 * left - lenCount lens l)

/-- `next[1 ..]`: the first code of each length, from `code` and the length before (R284). -/
def firstCodes (lens : List Nat) : List Nat → Nat → List Nat
  | [], _ => []
  | l :: ls, code =>
    let c := 2 * (code + lenCount lens (l - 1))
    c :: firstCodes lens ls c

/-- The assignment of codes in increasing symbol order; `next[l]` is the next code of length l (R284). -/
def assignCodes (next : List Nat) (s : Nat) : List Nat → HuffCode
  | [] => []
  | l :: ls =>
    if l = 0 then assignCodes next (s + 1) ls
    else { len := l, code := next.getD l 0, sym := s } ::
      assignCodes (next.set l (next.getD l 0 + 1)) (s + 1) ls

/-- The code lengths 1 to 15. -/
def codeLens : List Nat := [1, 2, 3, 4, 5, 6, 7, 8, 9, 10, 11, 12, 13, 14, 15]

/-- `BUILD(lens, kind)` (R284): over-subscribed codes are rejected, incomplete ones too except a literal/length or
distance code whose only symbol has length 1, or an empty code. -/
def huffBuild (lens : List Nat) (kind : HuffKind) : Res HuffCode :=
  match huffLeft lens codeLens 1 with
  | none => .error .corruptPayload
  | some left =>
    let used := lens.countP (· ≠ 0)
    let oneShort : Bool := used == 1 && lens.foldl max 0 == 1
    if 0 < left ∧ 0 < used ∧ (kind = .codeLengths ∨ oneShort = false) then .error .corruptPayload
    else .ok (assignCodes (0 :: firstCodes lens codeLens 0) 0 lens)

/-- The literal/length lengths of block type 1 (R285). -/
def fixedLitLens : List Nat :=
  List.replicate 144 8 ++ List.replicate 112 9 ++ List.replicate 24 7 ++ List.replicate 8 8

/-- The distance lengths of block type 1 (R285). -/
def fixedDistLens : List Nat := List.replicate 32 5

/-- Base and extra bits of the length symbols 257 to 285 (R286). -/
def lengthTable : List (Nat × Nat) :=
  [(3, 0), (4, 0), (5, 0), (6, 0), (7, 0), (8, 0), (9, 0), (10, 0), (11, 1), (13, 1),
   (15, 1), (17, 1), (19, 2), (23, 2), (27, 2), (31, 2), (35, 3), (43, 3), (51, 3), (59, 3),
   (67, 4), (83, 4), (99, 4), (115, 4), (131, 5), (163, 5), (195, 5), (227, 5), (258, 0)]

/-- Base and extra bits of the distance symbols 0 to 29 (R287). -/
def distTable : List (Nat × Nat) :=
  [(1, 0), (2, 0), (3, 0), (4, 0), (5, 1), (7, 1), (9, 2), (13, 2), (17, 3), (25, 3),
   (33, 4), (49, 4), (65, 5), (97, 5), (129, 6), (193, 6), (257, 7), (385, 7), (513, 8), (769, 8),
   (1025, 9), (1537, 9), (2049, 10), (3073, 10), (4097, 11), (6145, 11), (8193, 12), (12289, 12),
   (16385, 13), (24577, 13)]

/-- The order in which the code-length code's lengths are sent (R288). -/
def clOrder : List Nat := [16, 17, 18, 0, 8, 7, 9, 6, 10, 5, 11, 4, 12, 3, 13, 2, 14, 1, 15]

/-! ## Output (R299) -/

/-- One output byte; RESOURCE_LIMIT if it would take the output past a finite SCRATCH_BYTES (R299). -/
def emit (limit : Option Nat) (out : Bytes) (b : Byte) : Res Bytes :=
  match limit with
  | none => .ok (out ++ [b])
  | some n => if n ≤ out.length then .error .resourceLimit else .ok (out ++ [b])

/-- A back-reference, byte by byte (R294). -/
def copyBack (limit : Option Nat) (dist : Nat) : Nat → Bytes → Res Bytes
  | 0, out => .ok out
  | n + 1, out => do
    let out ← emit limit out (out.getD (out.length - dist) 0)
    copyBack limit dist n out

/-! ## Blocks (R292 to R295) -/

/-- The stored bytes of a block (R293). -/
def storedBytes (limit : Option Nat) : Nat → Bytes → Reader → Res (Bytes × Reader)
  | 0, out, r => .ok (out, r)
  | n + 1, out, r => do
    let (v, r) ← getbits 8 r
    let out ← emit limit out (byteOf v)
    storedBytes limit n out r

/-- `STORED(out)` (R293). -/
def storedBlock (limit : Option Nat) (out : Bytes) (r : Reader) : Res (Bytes × Reader) := do
  let (len, r) ← getbits 16 (align r)
  let (nlen, r) ← getbits 16 r
  if len + nlen ≠ 0xFFFF then .error .corruptPayload
  else storedBytes limit len out r

/-- `INFLATE_BLOCK(out, LT, DT)` (R294). Every turn reads a bit or ends, so `fuel` bounds the turns (R181). -/
def inflateBlock (limit : Option Nat) (LT DT : HuffCode) : Nat → Bytes → Reader → Res (Bytes × Reader)
  | 0, _, _ => .error .corruptPayload
  | fuel + 1, out, r => do
    let (sym, r) ← huffDecode LT r
    if sym < 256 then do
      let out ← emit limit out (byteOf sym)
      inflateBlock limit LT DT fuel out r
    else if sym = 256 then .ok (out, r)
    else
      match lengthTable[sym - 257]? with
      | none => .error .corruptPayload
      | some (base, extra) => do
        let (e, r) ← getbits extra r
        let (ds, r) ← huffDecode DT r
        match distTable[ds]? with
        | none => .error .corruptPayload
        | some (dbase, dextra) => do
          let (de, r) ← getbits dextra r
          if out.length < dbase + de then .error .corruptPayload
          else do
            let out ← copyBack limit (dbase + de) (base + e) out
            inflateBlock limit LT DT fuel out r

/-- The code-length code's lengths `cl[0 .. 18]`, 3 bits each in the order of R288. -/
def readClLens : List Nat → List Nat → Reader → Res (List Nat × Reader)
  | [], cl, r => .ok (cl, r)
  | k :: ks, cl, r => do
    let (v, r) ← getbits 3 r
    readClLens ks (cl.set k v) r

/-- The repeat count and value of a code-length symbol (R288, R295). -/
def clRepeat (lens : List Nat) (sym : Nat) (r : Reader) : Res (Nat × Nat × Reader) :=
  if sym ≤ 15 then .ok (1, sym, r)
  else if sym = 16 then
    match lens.getLast? with
    | none => .error .corruptPayload
    | some last => do
      let (v, r) ← getbits 2 r
      .ok (3 + v, last, r)
  else if sym = 17 then do
    let (v, r) ← getbits 3 r
    .ok (3 + v, 0, r)
  else do
    let (v, r) ← getbits 7 r
    .ok (11 + v, 0, r)

/-- The code-length sequence of both codes (R289, R295); each turn adds at least one length. -/
def readLens (CLT : HuffCode) (total : Nat) : Nat → List Nat → Reader → Res (List Nat × Reader)
  | 0, lens, r => if total ≤ lens.length then .ok (lens, r) else .error .corruptPayload
  | fuel + 1, lens, r =>
    if total ≤ lens.length then .ok (lens, r)
    else do
      let (sym, r) ← huffDecode CLT r
      let (rep, val, r) ← clRepeat lens sym r
      if total < lens.length + rep then .error .corruptPayload
      else readLens CLT total fuel (lens ++ List.replicate rep val) r

/-- `DYNTABLES()` (R295). -/
def dynTables (r : Reader) : Res (HuffCode × HuffCode × Reader) := do
  let (h1, r) ← getbits 5 r
  let (h2, r) ← getbits 5 r
  let (h3, r) ← getbits 4 r
  let hlit := h1 + 257
  let hdist := h2 + 1
  if 286 < hlit ∨ 30 < hdist then .error .corruptPayload
  else do
    let (cl, r) ← readClLens (clOrder.take (h3 + 4)) (List.replicate 19 0) r
    let CLT ← huffBuild cl .codeLengths
    let (lens, r) ← readLens CLT (hlit + hdist) (hlit + hdist) [] r
    if lens.getD 256 0 = 0 then .error .corruptPayload
    else do
      let LT ← huffBuild (lens.take hlit) .literals
      let DT ← huffBuild (lens.drop hlit) .distances
      .ok (LT, DT, r)

/-- One block after its header: stored, fixed, dynamic; type 3 is reserved (R290, R292). -/
def inflateOne (limit : Option Nat) (btype fuel : Nat) (out : Bytes) (r : Reader) : Res (Bytes × Reader) :=
  if btype = 0 then storedBlock limit out r
  else if btype = 1 then do
    let LT ← huffBuild fixedLitLens .literals
    let DT ← huffBuild fixedDistLens .distances
    inflateBlock limit LT DT fuel out r
  else if btype = 2 then do
    let (LT, DT, r) ← dynTables r
    inflateBlock limit LT DT fuel out r
  else .error .corruptPayload

/-- The blocks up to the one with BFINAL = 1 (R290, R292). Every block reads at least 3 bits. -/
def inflateBlocks (limit : Option Nat) (bits : Nat) : Nat → Bytes → Reader → Res (Bytes × Reader)
  | 0, _, _ => .error .corruptPayload
  | fuel + 1, out, r => do
    let (final, r) ← getbits 1 r
    let (btype, r) ← getbits 2 r
    let (out, r) ← inflateOne limit btype bits out r
    if final = 1 then .ok (out, r) else inflateBlocks limit bits fuel out r

/-- `ZHEADER(S)` (R291). -/
def zheader (S : Bytes) : Res Unit :=
  if S.length < 2 then .error .truncatedPayload
  else
    let cmf := natAt S 0
    let flg := natAt S 1
    if (cmf * 256 + flg) % 31 ≠ 0 then .error .corruptPayload
    else if cmf % 16 ≠ 8 then .error .corruptPayload
    else if 7 < cmf / 16 then .error .corruptPayload
    else if flg / 32 % 2 = 1 then .error .corruptPayload
    else .ok ()

/-- The two sums of R296. -/
def adlerSums (x : Bytes) : Nat × Nat :=
  x.foldl (fun s b => ((s.1 + b.toNat) % 65521, (s.2 + (s.1 + b.toNat) % 65521) % 65521)) (1, 0)

/-- `ADLER32(x)` (R296). -/
def adler32 (x : Bytes) : Nat := (adlerSums x).2 * 65536 + (adlerSums x).1

/-- `ZTRAILER(S, bp, out)`: the big-endian Adler-32 of the output; bytes after it are ignored (R303, R304). -/
def ztrailer (r : Reader) (out : Bytes) : Res Unit :=
  if r.rest.length < 4 then .error .truncatedPayload
  else
    let a := natAt r.rest 0 * 2 ^ 24 + natAt r.rest 1 * 2 ^ 16 + natAt r.rest 2 * 2 ^ 8 + natAt r.rest 3
    if a ≠ adler32 out then .error .corruptPayload else .ok ()

/-- `ZDECODE(S)` (R290); `limit` is a finite SCRATCH_BYTES (R299). The fuel is more than the bits of S, each of
which is read once, so it never runs out (R181). -/
def zdecode (limit : Option Nat) (S : Bytes) : Res Bytes := do
  zheader S
  let (out, r) ← inflateBlocks limit (8 * S.length + 1) (8 * S.length + 1) [] { rest := S.drop 2, off := 0 }
  ztrailer (align r) out
  .ok out

/-! ## The reference encoder (R310) -/

/-- A stored block: BFINAL, BTYPE 00 and padding in one byte, LEN, NLEN, the bytes (R310). -/
def refBlock (last : Bool) (k : Bytes) : Bytes :=
  byteOf last.toNat :: (u16le k.length ++ u16le (0xFFFF - k.length) ++ k)

/-- x cut into pieces of 65535 bytes; `fuel` is the number of whole pieces that fit (R310). -/
def refBlocks : Nat → Bytes → Bytes
  | 0, x => refBlock true x
  | fuel + 1, x =>
    if x.length ≤ 65535 then refBlock true x
    else refBlock false (x.take 65535) ++ refBlocks fuel (x.drop 65535)

/-- `REF_STORED(s, x)`: stored blocks only, the strategy ignored (R310). -/
def refStored (_s : Strategy) (x : Bytes) : Bytes :=
  [0x78, 0x01] ++ refBlocks (x.length / 65535) x ++ u32be (adler32 x)

end Sys2Proof.Machine
end

