-- ==== Sys2Proof/Machine/EntropyEncoder.lean ====
section
/-! DEFINITION. What an entropy encoder is (00_scope R12): a total function of strategy and input with the law E-inv.
The theorem that REF_STORED (43_entropy_stage R310) has that law shows that such an encoder exists. -/

namespace Sys2Proof.Machine

theorem getbits_byte (b : Byte) (tl : Bytes) :
    getbits 8 { rest := b :: tl, off := 0 } = .ok (b.toNat, { rest := tl, off := 0 }) := by
  have h : ∀ b : BitVec 8, b[0].toNat + 2 * (b[1].toNat + 2 * (b[2].toNat + 2 * (b[3].toNat + 2 * (b[4].toNat +
      2 * (b[5].toNat + 2 * (b[6].toNat + 2 * b[7].toNat)))))) = b.toNat := by decide +kernel
  simp [getbits, getbit, bind, Except.bind, h b]

theorem getbits_add (m n : Nat) (r : Reader) :
    getbits (m + n) r = (getbits m r).bind fun p => (getbits n p.2).bind fun q => .ok (p.1 + 2 ^ m * q.1, q.2) := by
  induction m generalizing r with
  | zero => simp [getbits, Except.bind]; cases getbits n r <;> rfl
  | succ m ih =>
    rw [Nat.succ_add, getbits, getbits]
    cases hb : getbit r with
    | error e => rfl
    | ok p =>
      simp only [bind, Except.bind, ih]
      cases getbits m p.2 with
      | error e => rfl
      | ok q =>
        simp only
        cases getbits n q.2 with
        | error e => rfl
        | ok t => simp only [Except.ok.injEq, Prod.mk.injEq, and_true]; ring

theorem getbits_two_bytes (a b : Byte) (tl : Bytes) :
    getbits 16 { rest := a :: b :: tl, off := 0 } =
      .ok (a.toNat + 256 * b.toNat, { rest := tl, off := 0 }) := by
  rw [show 16 = 8 + 8 from rfl, getbits_add, getbits_byte]
  simp [Except.bind, getbits_byte]

theorem u16le_value {n : Nat} (h : n ≤ 65535) : (byteOf n).toNat + 256 * (byteOf (n / 256)).toNat = n := by
  simp only [byteOf, BitVec.toNat_ofNat]; omega

theorem storedBytes_append (k out tl : Bytes) :
    storedBytes none k.length out { rest := k ++ tl, off := 0 } = .ok (out ++ k, { rest := tl, off := 0 }) := by
  induction k generalizing out with
  | nil => simp [storedBytes]
  | cons b k ih =>
    simp [storedBytes, getbits_byte, bind, Except.bind, emit, byteOf, ih]

theorem storedBlock_refBlock (h : Byte) (k out tl : Bytes) (hk : k.length ≤ 65535) :
    storedBlock none out { rest := h :: (u16le k.length ++ u16le (0xFFFF - k.length) ++ k) ++ tl, off := 3 } =
      .ok (out ++ k, { rest := tl, off := 0 }) := by
  have h1 := u16le_value hk
  have h2 := u16le_value (n := 65535 - k.length) (by omega)
  simp [storedBlock, align, u16le, getbits_two_bytes, bind, Except.bind, h1, h2, storedBytes_append, hk]

theorem inflateBlocks_refBlock (bits fuel : Nat) (last : Bool) (k out tl : Bytes) (hk : k.length ≤ 65535) :
    inflateBlocks none bits (fuel + 1) out { rest := refBlock last k ++ tl, off := 0 } =
      if last then .ok (out ++ k, { rest := tl, off := 0 })
      else inflateBlocks none bits fuel (out ++ k) { rest := tl, off := 0 } := by
  have hb := storedBlock_refBlock (byteOf last.toNat) k out tl hk
  have e : refBlock last k ++ tl =
      byteOf last.toNat :: (u16le k.length ++ u16le (0xFFFF - k.length) ++ k ++ tl) := by simp [refBlock]
  rw [e]
  rw [List.cons_append] at hb
  generalize (u16le k.length ++ u16le (0xFFFF - k.length) ++ k ++ tl) = rest at hb ⊢
  cases last <;>
  simp_all [inflateBlocks, getbits, getbit, bind, Except.bind, inflateOne, byteOf]

theorem inflateBlocks_refBlocks (bits n fuel : Nat) (x out tl : Bytes) (hn : x.length / 65535 ≤ n)
    (hf : n < fuel) :
    inflateBlocks none bits fuel out { rest := refBlocks n x ++ tl, off := 0 } =
      .ok (out ++ x, { rest := tl, off := 0 }) := by
  induction n generalizing fuel x out with
  | zero =>
    obtain ⟨f, rfl⟩ : ∃ f, fuel = f + 1 := ⟨fuel - 1, by omega⟩
    rw [refBlocks, inflateBlocks_refBlock _ _ _ _ _ _ (by omega)]; rfl
  | succ n ih =>
    obtain ⟨f, rfl⟩ : ∃ f, fuel = f + 1 := ⟨fuel - 1, by omega⟩
    rw [refBlocks]
    split
    · rw [inflateBlocks_refBlock _ _ _ _ _ _ (by assumption)]; rfl
    · rw [List.append_assoc, inflateBlocks_refBlock _ _ _ _ _ _ (by simp)]
      rw [if_neg (by simp), ih f (x.drop 65535) _ (by simp; omega) (by omega)]
      simp

theorem adlerSums_lt (x : Bytes) : (adlerSums x).1 < 65521 ∧ (adlerSums x).2 < 65521 := by
  have : ∀ (x : Bytes) (s : Nat × Nat), s.1 < 65521 → s.2 < 65521 →
      (x.foldl (fun s b => ((s.1 + b.toNat) % 65521, (s.2 + (s.1 + b.toNat) % 65521) % 65521)) s).1 < 65521 ∧
      (x.foldl (fun s b => ((s.1 + b.toNat) % 65521, (s.2 + (s.1 + b.toNat) % 65521) % 65521)) s).2 < 65521 := by
    intro x
    induction x with
    | nil => intro s h1 h2; exact ⟨h1, h2⟩
    | cons b x ih => intro s _ _; exact ih _ (Nat.mod_lt _ (by omega)) (Nat.mod_lt _ (by omega))
  exact this x _ (by decide) (by decide)

theorem ztrailer_adler (x : Bytes) :
    ztrailer { rest := u32be (adler32 x), off := 0 } x = .ok () := by
  have h := adlerSums_lt x
  have ha : adler32 x < 2 ^ 32 := by unfold adler32; omega
  generalize hg : adler32 x = a at ha
  simp only [ztrailer, hg]
  simp only [u32be, natAt, byteOf, List.length_cons, List.length_nil, List.getD_cons_zero, List.getD_cons_succ,
    BitVec.toNat_ofNat]
  rw [if_neg (by omega), if_neg (by omega)]

theorem refBlocks_length (n : Nat) (x : Bytes) : x.length ≤ (refBlocks n x).length := by
  induction n generalizing x with
  | zero => simp [refBlocks, refBlock]; omega
  | succ n ih =>
    rw [refBlocks]
    split
    · simp [refBlock]; omega
    · have := ih (x.drop 65535)
      simp only [List.length_append, List.length_drop, refBlock, List.length_cons, List.length_take] at *
      omega

theorem refStored_eq (s : Strategy) (x : Bytes) : refStored s x =
    0x78 :: 0x01 :: (refBlocks (x.length / 65535) x ++ u32be (adler32 x)) := by
  simp only [refStored, List.cons_append, List.nil_append]

theorem refStored_fuel (s : Strategy) (x : Bytes) : x.length / 65535 < 8 * (refStored s x).length + 1 := by
  have h1 := refBlocks_length (x.length / 65535) x
  have h2 := Nat.div_le_self x.length 65535
  have h3 : (refBlocks (x.length / 65535) x).length ≤ (refStored s x).length := by
    simp only [refStored, List.length_append]; omega
  omega

theorem zheader_ref (rest : Bytes) : zheader (0x78 :: 0x01 :: rest) = .ok () := by
  simp [zheader, natAt]

theorem zdecode_of_parts {limit : Option Nat} {S out : Bytes} {r : Reader} (hz : zheader S = .ok ())
    (hb : inflateBlocks limit (8 * S.length + 1) (8 * S.length + 1) [] { rest := S.drop 2, off := 0 } = .ok (out, r))
    (ht : ztrailer (align r) out = .ok ()) : zdecode limit S = .ok out := by
  simp only [zdecode, hz, hb, ht, bind, Except.bind]

/-- Law E-inv of R12 for the reference encoder (R310). -/
theorem zdecode_refStored (s : Strategy) (x : Bytes) : zdecode none (refStored s x) = .ok x := by
  have hfuel := refStored_fuel s x
  have hz : zheader (refStored s x) = .ok () := by rw [refStored_eq, zheader_ref]
  have hd : (refStored s x).drop 2 = refBlocks (x.length / 65535) x ++ u32be (adler32 x) := by
    rw [refStored_eq]; exact List.drop_succ_cons ..
  refine zdecode_of_parts (r := { rest := u32be (adler32 x), off := 0 }) hz ?_ ?_
  · rw [hd, inflateBlocks_refBlocks _ (x.length / 65535) _ x [] (u32be (adler32 x)) (Nat.le_refl _) hfuel,
      List.nil_append]
  · exact ztrailer_adler x

/-- An entropy encoder: a total function of `(s, x)` alone (E-total) whose streams ZDECODE inverts (E-inv, R12). -/
structure EntropyEncoder where
  encode : Strategy → Bytes → Bytes
  inverse : ∀ s x, zdecode none (encode s x) = .ok x

/-- REF_STORED as an entropy encoder (R310). -/
def refEncoder : EntropyEncoder := { encode := refStored, inverse := zdecode_refStored }

end Sys2Proof.Machine
end

