-- ==== Sys2Proof/Machine/Transforms.lean ====
section
/-! DEFINITION. The transform primitives of 41_transform_primitives: RLE, the three delta predictors, the palette. -/

namespace Sys2Proof.Machine

/-! ## Run-length encoding (R200, R201) -/

/-- The pairs of a pixel list whose current run holds `k` copies of `p`: a run ends at a different pixel or at 255
copies (R200). -/
def rleRun (p : Bytes) (k : Nat) : List Bytes → Bytes
  | [] => byteOf k :: p
  | q :: qs => if q = p ∧ k < 255 then rleRun p (k + 1) qs else byteOf k :: p ++ rleRun q 1 qs

/-- The RLE stream of a pixel list (R127, R200). -/
def rlePixels : List Bytes → Bytes
  | [] => []
  | p :: ps => rleRun p 1 ps

/-- `RLE(R, C)` (R200): pairs of a count byte and a pixel, runs crossing rows. -/
def rle (R : Bytes) (C : Nat) : Bytes := rlePixels (px R C)

/-- The loop of RLEINV; `fuel` bounds the pairs, each of which takes at least one byte. -/
def rleInvLoop (C : Nat) : Nat → Bytes → Res Bytes
  | _, [] => .ok []
  | 0, _ :: _ => .error .truncatedPayload
  | fuel + 1, k :: rest =>
    if rest.length < C then .error .truncatedPayload
    else do
      let tail ← rleInvLoop C fuel (rest.drop C)
      .ok (repeatBytes (rest.take C) k.toNat ++ tail)

/-- `RLEINV(S, C)` (R201): an incomplete pair is TRUNCATED_PAYLOAD, a count of 0 expands to nothing. -/
def rleInv (S : Bytes) (C : Nat) : Res Bytes := rleInvLoop C S.length S

/-! ## Delta predictors (R203 to R209) -/

/-- `pr_0(X, i)`: the previous pixel of the flat raster order, seeded with zero (R204). -/
def predDelta (C : Nat) (X : Bytes) (i : Nat) : Nat := if C ≤ i then natAt X (i - C) else 0

/-- `pr_1(X, i)`: the previous pixel; the first pixel literal, which is a prediction of 0 (R205). -/
def predAvg (C : Nat) (X : Bytes) (i : Nat) : Nat := if C ≤ i then natAt X (i - C) else 0

/-- `pr_2(X, i)`: left on row 0, above on column 0, the floor of their mean elsewhere (R207). -/
def predPaeth (W C : Nat) (X : Bytes) (i : Nat) : Nat :=
  let p := i / C
  let x := p % W
  let y := p / W
  if p = 0 then 0
  else if y = 0 then natAt X (i - C)
  else if x = 0 then natAt X (i - W * C)
  else (natAt X (i - C) + natAt X (i - W * C)) / 2

/-- `pr_v(X, i)`. -/
def prediction (v : Variant) (W C : Nat) (X : Bytes) (i : Nat) : Nat :=
  match v with
  | .delta => predDelta C X i
  | .avg => predAvg C X i
  | .paeth => predPaeth W C X i

/-- `PRED(v, R, W, C)` (R208): each residual is taken mod 256 from the original bytes (R203). -/
def pred (v : Variant) (R : Bytes) (W C : Nat) : Bytes :=
  (List.range R.length).map fun i => R.getD i 0 - byteOf (prediction v W C R i)

/-- The loop of PREDINV: `out` holds the bytes already reconstructed (R209). -/
def predInvLoop (v : Variant) (W C : Nat) (out : Bytes) : Bytes → Bytes
  | [] => out
  | s :: rest => predInvLoop v W C (out ++ [s + byteOf (prediction v W C out out.length)]) rest

/-- `PREDINV(v, S, W, C)` (R209). -/
def predInv (v : Variant) (S : Bytes) (W C : Nat) : Bytes := predInvLoop v W C [] S

/-! ## Palette (R211 to R214) -/

/-- The table in order of first appearance (R212, R213). -/
def palTable (ps : List Bytes) : List Bytes := ps.foldl (fun T p => if p ∈ T then T else T ++ [p]) []

/-- `distinct(R, C)` (R211). -/
def distinct (R : Bytes) (C : Nat) : Nat := (palTable (px R C)).length

/-- `PAL(R, C)` (R212): count, table, indices (R126). -/
def pal (R : Bytes) (C : Nat) : Res Bytes :=
  let ps := px R C
  let T := palTable ps
  if 256 < T.length then .error .paletteOverflow
  else .ok (u16le T.length ++ T.flatten ++ ps.map fun p => byteOf (T.idxOf p))

/-- The index bytes of a palette stream looked up in order (R214). -/
def palLookup (T : List Bytes) : Bytes → Res Bytes
  | [] => .ok []
  | b :: rest =>
    match T[b.toNat]? with
    | none => .error .corruptPayload
    | some p => do
      let tail ← palLookup T rest
      .ok (p ++ tail)

/-- `PALINV(S, C)` (R214). -/
def palInv (S : Bytes) (C : Nat) : Res Bytes :=
  if S.length < 2 then .error .truncatedPayload
  else
    let n := natAt S 0 + 256 * natAt S 1
    if 256 < n then .error .corruptPayload
    else if S.length < 2 + n * C then .error .truncatedPayload
    else palLookup ((List.range n).map fun k => slice S (2 + k * C) C) (S.drop (2 + n * C))

end Sys2Proof.Machine
end

