-- ==== Sys2Proof/Machine/Filters.lean ====
section
/-! DEFINITION. The row filters and the filter engine (42_filter_engine R240 to R256). -/

namespace Sys2Proof.Machine

/-- The left or upper-left neighbour: byte `i - bpp` of a row, 0 for the first bpp bytes (R240). -/
def before (r : Bytes) (bpp i : Nat) : Nat := if bpp ≤ i then natAt r (i - bpp) else 0

/-- `fp_4(a, b, c)`, Paeth: signed distances, ties to left, then up, then upper left (R243). -/
def paeth (a b c : Nat) : Nat :=
  let p : Int := (a : Int) + b - c
  let pa := (p - a).natAbs
  let pb := (p - b).natAbs
  let pc := (p - c).natAbs
  if pa ≤ pb ∧ pa ≤ pc then a else if pb ≤ pc then b else c

/-- `fp_t(a, b, c)` (R241, R242, R243). -/
def filterPred (t : Filter) (a b c : Nat) : Nat :=
  match t with
  | .none => 0
  | .sub => a
  | .up => b
  | .average => (a + b) / 2
  | .paeth => paeth a b c

/-- `FROW(t, r, q, bpp)` (R244): neighbours from the original r and q. -/
def filterRow (t : Filter) (r q : Bytes) (bpp : Nat) : Bytes :=
  (List.range r.length).map fun i =>
    r.getD i 0 - byteOf (filterPred t (before r bpp i) (natAt q i) (before q bpp i))

/-- Row y of an image whose rows are n bytes (R245, R248). -/
def imageRow (R : Bytes) (n y : Nat) : Bytes := slice R (y * n) n

/-- The row above row y: the original previous row, a zero row above row 0 (R240, R245, R248). -/
def rowAbove (R : Bytes) (n y : Nat) : Bytes := if y = 0 then zeros n else imageRow R n (y - 1)

/-- `FUNIF(t, R, W, H, C)` (R245): type t on every row, row 0 too. -/
def filterUniform (t : Filter) (R : Bytes) (W H C : Nat) : Bytes :=
  (List.range H).flatMap fun y => t.tag :: filterRow t (imageRow R (W * C) y) (rowAbove R (W * C) y) C

/-- `V(y, W)`, the valid set of the adaptive filter, in increasing order (R246). -/
def validFilters (y W : Nat) : List Filter :=
  [Filter.none] ++ (if 1 < W then [.sub] else []) ++ (if 0 < y then [.up] else []) ++
    (if 1 < W ∧ 0 < y then [.average] else []) ++ (if 0 < y then [.paeth] else [])

/-- The type the adaptive filter picks: the least score, the least type on equal scores (R248, decision D23). -/
def bestFilter (score : Bytes → Nat) (types : List Filter) (r q : Bytes) (bpp : Nat) : Filter :=
  (argmin (fun t => score (filterRow t r q bpp)) types).getD .none

/-- `FADAPT(R, W, H, C)` with the row score of R247 as an argument (R248). -/
def filterAdaptive (score : Bytes → Nat) (R : Bytes) (W H C : Nat) : Bytes :=
  (List.range H).flatMap fun y =>
    let r := imageRow R (W * C) y
    let q := rowAbove R (W * C) y
    let t := bestFilter score (validFilters y W) r q C
    t.tag :: filterRow t r q C

/-- The source's row score: the sum of |f[i] - 128| over unsigned bytes (00_scope R14, R247). -/
def sourceScore (f : Bytes) : Nat := (f.map fun b => ((b.toNat : Int) - 128).natAbs).sum

/-- The loop of UNROW: `r` holds the bytes already reconstructed (R249). -/
def unfilterLoop (t : Filter) (q : Bytes) (bpp : Nat) (r : Bytes) : Bytes → Bytes
  | [] => r
  | f :: rest =>
    let i := r.length
    unfilterLoop t q bpp
      (r ++ [f + byteOf (filterPred t (before r bpp i) (natAt q i) (before q bpp i))]) rest

/-- `UNROW(t, f, q, bpp)` (R249). -/
def unfilterRow (t : Filter) (f q : Bytes) (bpp : Nat) : Bytes := unfilterLoop t q bpp [] f

/-- The loop of FILTDEC: `q` is the row above, `fuel` bounds the rows, each of which takes at least its tag. -/
def filterDecodeLoop (n bpp : Nat) : Nat → Bytes → Bytes → Res Bytes
  | _, _, [] => .ok []
  | 0, _, _ :: _ => .error .corruptPayload
  | fuel + 1, q, tag :: rest =>
    match filterOf tag with
    | none => .error .corruptPayload
    | some t => do
      let r := unfilterRow t (rest.take n) q bpp
      let tail ← filterDecodeLoop n bpp fuel r (rest.drop n)
      .ok (r ++ tail)

/-- `FILTDEC(S, n, bpp)` (R250): the stream sets the number of rows; a partial final row is reconstructed (R253). -/
def filterDecode (S : Bytes) (n bpp : Nat) : Res Bytes := filterDecodeLoop n bpp S.length (zeros n) S

/-- `RFILT(Q, C)`: method 8's stream is one row of `|Q| / (1+C)` pairs, bpp 1+C (R256). -/
def rleFilter (score : Bytes → Nat) (Q : Bytes) (C : Nat) : Bytes :=
  filterAdaptive score Q (Q.length / (1 + C)) 1 (1 + C)

/-- `RFILTDEC(S, C)` (R256). -/
def rleFilterDecode (S : Bytes) (C : Nat) : Res Bytes :=
  if S.length = 0 then .ok [] else filterDecode S (S.length - 1) (1 + C)

end Sys2Proof.Machine
end

