-- ==== Sys2Proof/Config.lean ====
section
/-! DEFINITION. The parameters a model takes as an argument (00_scope R10 to R18, 92 "Open parameters") and the free
values. A parameter that is data is a field of Params. One that is a function is chosen by a field of Params: its
default or reference instance where the spec has one, or an unconstrained member of a family of opaque functions. -/

namespace Sys2Proof

open Sys2Proof.Machine

/-! ## Constants nothing is known of -/

/-- Free values ("any value", 93 Part 1): the n-th one drawn. It has no body, so nothing can be proved of a value
(log 4). -/
opaque Config.freeWord : Nat → Word

/-- Row scores other than the source's (R14): an unconstrained family of total functions (log 11). -/
opaque Config.platformScore : Nat → Bytes → Nat

/-- Bits 31:8 of ENGINE_BASE on the platform the machine is reset on; bits 7:0 are 0, since ENGINE_BASE is a
multiple of 256 (R11, log 1). -/
opaque Config.enginePage : BitVec 24

/-- POOL_SIZE minus 1 on that platform; POOL_SIZE is at least 1 (R17, log 1). -/
opaque Config.extraEvaluators : Nat

/-- An unconstrained element of an inhabited type: only that it has the type is known. -/
opaque Config.someOf (α : Type) [Inhabited α] : α

/-- ENTROPY_ENC on the platform (R12): an unconstrained family of encoders that have the laws E-total and E-inv,
and nothing else (log 10). -/
def Config.platformEncoder : Nat → EntropyEncoder :=
  @Config.someOf (Nat → EntropyEncoder) { default := fun _ => refEncoder }

/-- A stage that holds intermediate byte sequences in internal storage while it runs (10_state R59). -/
inductive Stage where
  | rle
  | rleInv
  | pred
  | predInv
  | pal
  | palInv
  | filter
  | filterInv
  | entropy (s : Strategy)
  /-- the second ZDECODE of methods 9 and 10, which runs while the first one's output is held -/
  | innerZdecode
  deriving DecidableEq, Repr

/-- Where a stage runs: inside a method's pipeline, or as a stage command, whose result is not counted (93 I12). -/
inductive Site where
  | pipeline (st : Stage)
  | command (st : Stage)
  deriving DecidableEq, Repr

/-- The most bytes of internal storage an engine holds at once while a stage runs over `input`, until it ends in
`outcome`: which intermediates it holds is implementation-defined (R16, 93 I12, log 12). -/
opaque Config.scratchNeed (site : Site) (input : Bytes) (outcome : Res Bytes) : Nat

/-! ## The parameters -/

/-- A range of bus addresses that holds memory: MEM_OK is true on it (R18). An ordinary region reads back what was
written and has no side effects; another is a device's (20_memory R93). -/
structure Region where
  base : Nat
  size : Nat
  ordinary : Bool := true
  deriving DecidableEq, Repr

/-- MEM_OK on the platform the machine is reset on (R18, log 1). -/
opaque Config.memMap : List Region

/-- ROW_SCORE (R14): the source's rule, or another total function. -/
inductive RowScore where
  | source
  | platform (k : Nat)
  deriving DecidableEq, Repr

/-- ENTROPY_ENC (R12): the platform's, or the reference instance REF_STORED, used for test vectors (43 R310). -/
inductive EntropyChoice where
  | platform (k : Nat)
  | refStored
  deriving DecidableEq, Repr

/-- The parameters of one engine (R11 to R18). -/
structure Params where
  /-- bits 31:8 of ENGINE_BASE (R11) -/
  enginePage : BitVec 24
  /-- MEM_OK, as the regions on which it is true (R18) -/
  memMap : List Region
  /-- ENTROPY_ENC (R12) -/
  entropy : EntropyChoice
  /-- FAST_SUBSET: bit m is 1 for the method ids in it (R13); default {0, 2, 3} -/
  fastSubset : BitVec 11 := 0b00000001101
  /-- ROW_SCORE (R14) -/
  rowScore : RowScore := .source
  /-- MAX_PIXELS (R15) -/
  maxPixels : Nat := 65535 * 65535
  /-- SCRATCH_BYTES, none when unbounded (R16) -/
  scratch : Option Nat := none
  /-- POOL_SIZE minus 1 (R17): no rule reads it -/
  extraEvaluators : Nat
  deriving DecidableEq, Repr

/-- The parameters at reset: the spec's defaults, and the platform's opaque constants where it gives none (log 1). -/
def Params.default : Params :=
  { enginePage := Config.enginePage
    memMap := Config.memMap
    entropy := .platform 0
    extraEvaluators := Config.extraEvaluators }

end Sys2Proof
end

