-- ==== Sys2Proof/Machine/Platform.lean ====
section
/-! DEFINITION. What the parameters mean: ENGINE_BASE, MEM_OK, FAST_SUBSET, ROW_SCORE, ENTROPY_ENC, POOL_SIZE (00_scope
R11 to R18). -/

namespace Sys2Proof

open Sys2Proof.Machine

/-- ENGINE_BASE (R11). -/
def Params.engineBase (P : Params) : Nat := P.enginePage.toNat * 256

/-- Whether an address lies in the engine's register block (20_memory R86). -/
def Params.inBlock (P : Params) (a : Nat) : Bool := decide (P.engineBase ≤ a) && decide (a < P.engineBase + 256)

/-- Whether a region holds an address. -/
def Region.has (r : Region) (a : Nat) : Bool := decide (r.base ≤ a) && decide (a < r.base + r.size)

/-- `MEM_OK(a)` (R18). -/
def Params.memOk (P : Params) (a : Nat) : Bool := P.memMap.any fun r => r.has a

/-- Whether an address belongs to a region that is not ordinary memory (20_memory R93). -/
def Params.isDevice (P : Params) (a : Nat) : Bool := P.memMap.any fun r => r.has a && !r.ordinary

/-- Whether method m is in FAST_SUBSET (R13). -/
def Params.inFast (P : Params) (m : Nat) : Bool := P.fastSubset.getLsbD m

/-- `ROW_SCORE(f)` (R14). -/
def Params.score (P : Params) (f : Bytes) : Nat :=
  match P.rowScore with
  | .source => sourceScore f
  | .platform k => Config.platformScore k f

/-- `ENTROPY_ENC(s, x)` (R12). -/
def Params.entropyEnc (P : Params) (s : Strategy) (x : Bytes) : Bytes :=
  match P.entropy with
  | .platform k => (Config.platformEncoder k).encode s x
  | .refStored => refStored s x

/-- POOL_SIZE (R17). -/
def Params.poolSize (P : Params) : Nat := P.extraEvaluators + 1

end Sys2Proof
end

