-- ==== Sys2Proof/Machine/Methods.lean ====
section
/-! DEFINITION. The method catalog: the eleven pipelines and the method-id dispatcher (44_method_catalog R340 to
R357). -/

namespace Sys2Proof.Machine

/-- A stage run under SCRATCH_BYTES: RESOURCE_LIMIT if a finite bound cannot hold what the stage holds at once on its
way to `outcome` (00_scope R16, 93 I12). The need is free, so whether the bound is passed before the stage's own
failure, or at all, is free too (46_decoder R417 item 8, 60_exceptions R457; the model's choice, log 12). -/
def hold (P : Params) (site : Site) (input : Bytes) (outcome : Res Bytes) : Res Bytes :=
  match P.scratch with
  | none => outcome
  | some n => if n < Config.scratchNeed site input outcome then .error .resourceLimit else outcome

/-- `Z_s(x)`, an entropy-coded stage of a pipeline over `input`: it can fail only with RESOURCE_LIMIT (43 R306, R309). -/
def zenc (P : Params) (s : Strategy) (input x : Bytes) : Res Bytes :=
  hold P (.pipeline (.entropy s)) input (.ok (P.entropyEnc s x))

/-! ## Encode pipelines -/

/-- `ENC_0` (R341): identity. -/
def enc0 (R : Bytes) : Res Bytes := .ok R

/-- `ENC_1` (R342): RLE, then one entropy pass. -/
def enc1 (P : Params) (R : Bytes) (C : Nat) : Res Bytes := do
  let q ← hold P (.pipeline .rle) R (.ok (rle R C))
  zenc P .default R q

/-- `ENC_2` (R343): one entropy pass, default strategy. -/
def enc2 (P : Params) (R : Bytes) : Res Bytes := zenc P .default R R

/-- `ENC_3` (R344): the shortest of the three strategies, ties to the lowest. -/
def enc3 (P : Params) (R : Bytes) : Res Bytes := do
  let best ← bestOf [(Strategy.default, zenc P .default R R), (Strategy.filtered, zenc P .filtered R R),
    (Strategy.huffmanOnly, zenc P .huffmanOnly R R)]
  .ok best.2

/-- One trial of method 4: the entropy stream of a variant's residuals (R345). -/
def enc4Trial (P : Params) (R : Bytes) (W C : Nat) (v : Variant) : Res Bytes := do
  let e ← hold P (.pipeline .pred) R (.ok (pred v R W C))
  zenc P .default R e

/-- `ENC_4` (R345): the shortest of the three variants, its tag first (30_encoding R125). -/
def enc4 (P : Params) (R : Bytes) (W C : Nat) : Res Bytes := do
  let best ← bestOf [(Variant.delta, enc4Trial P R W C .delta), (Variant.avg, enc4Trial P R W C .avg),
    (Variant.paeth, enc4Trial P R W C .paeth)]
  .ok (byteOf best.1.code :: best.2)

/-- `ENC_5` (R346): palette, then one entropy pass; PALETTE_OVERFLOW over 256 distinct pixels, whatever SCRATCH_BYTES
is (45_encoder_selector R384). -/
def enc5 (P : Params) (R : Bytes) (C : Nat) : Res Bytes := do
  let t ← pal R C
  let t ← hold P (.pipeline .pal) R (.ok t)
  zenc P .default R t

/-- `ENC_6` (R347): per-row adaptive filter, then one entropy pass. -/
def enc6 (P : Params) (R : Bytes) (W H C : Nat) : Res Bytes := do
  let f ← hold P (.pipeline .filter) R (.ok (filterAdaptive P.score R W H C))
  zenc P .default R f

/-- One trial of method 7: the entropy stream of one uniform filter (R348). -/
def enc7Trial (P : Params) (R : Bytes) (W H C : Nat) (t : Filter) : Res Bytes := do
  let f ← hold P (.pipeline .filter) R (.ok (filterUniform t R W H C))
  zenc P .default R f

/-- `ENC_7` (R348): the shortest of the five uniform filters. -/
def enc7 (P : Params) (R : Bytes) (W H C : Nat) : Res Bytes := do
  let best ← bestOf [(Filter.none, enc7Trial P R W H C .none), (Filter.sub, enc7Trial P R W H C .sub),
    (Filter.up, enc7Trial P R W H C .up), (Filter.average, enc7Trial P R W H C .average),
    (Filter.paeth, enc7Trial P R W H C .paeth)]
  .ok best.2

/-- `ENC_8` (R349): RLE, the single-row adaptive filter of its pairs, one entropy pass. -/
def enc8 (P : Params) (R : Bytes) (C : Nat) : Res Bytes := do
  let q ← hold P (.pipeline .rle) R (.ok (rle R C))
  let f ← hold P (.pipeline .filter) R (.ok (rleFilter P.score q C))
  zenc P .default R f

/-- `ENC_9` (R350): a second entropy pass over method 6's payload. -/
def enc9 (P : Params) (R : Bytes) (W H C : Nat) : Res Bytes := do
  let p6 ← enc6 P R W H C
  zenc P .default R p6

/-- `ENC_10` (R351): a second entropy pass over method 7's payload. -/
def enc10 (P : Params) (R : Bytes) (W H C : Nat) : Res Bytes := do
  let p7 ← enc7 P R W H C
  zenc P .default R p7

/-- The dispatcher's encode side (R340); ids 11 to 15 have no entry (40_commands R180). -/
def encMethod (P : Params) (m : Nat) (R : Bytes) (W H C : Nat) : Res Bytes :=
  match m with
  | 0 => enc0 R
  | 1 => enc1 P R C
  | 2 => enc2 P R
  | 3 => enc3 P R
  | 4 => enc4 P R W C
  | 5 => enc5 P R C
  | 6 => enc6 P R W H C
  | 7 => enc7 P R W H C
  | 8 => enc8 P R C
  | 9 => enc9 P R W H C
  | 10 => enc10 P R W H C
  | _ => .error .unsupportedMethod

/-! ## Decode pipelines -/

/-- `DEC_0` (R341). -/
def dec0 (Y : Bytes) : Res Bytes := .ok Y

/-- `DEC_1` (R342). -/
def dec1 (P : Params) (Y : Bytes) (C : Nat) : Res Bytes := do
  let q ← zdecode P.scratch Y
  hold P (.pipeline .rleInv) Y (rleInv q C)

/-- `DEC_2` (R343). -/
def dec2 (P : Params) (Y : Bytes) : Res Bytes := zdecode P.scratch Y

/-- `DEC_3` (R344): preset-agnostic. -/
def dec3 (P : Params) (Y : Bytes) : Res Bytes := zdecode P.scratch Y

/-- Method 4 after its tag: the entropy stream, then the variant's reconstruction (R345). -/
def dec4Body (P : Params) (v : Variant) (Y : Bytes) (W C : Nat) : Res Bytes := do
  let e ← zdecode P.scratch Y
  hold P (.pipeline .predInv) Y (.ok (predInv v e W C))

/-- `DEC_4` (R345): an empty payload is TRUNCATED_PAYLOAD, a tag over 2 CORRUPT_PAYLOAD. -/
def dec4 (P : Params) (Y : Bytes) (W C : Nat) : Res Bytes :=
  match Y with
  | [] => .error .truncatedPayload
  | tag :: rest =>
    match variantOf tag.toNat with
    | none => .error .corruptPayload
    | some v => dec4Body P v rest W C

/-- `DEC_5` (R346). -/
def dec5 (P : Params) (Y : Bytes) (C : Nat) : Res Bytes := do
  let t ← zdecode P.scratch Y
  hold P (.pipeline .palInv) Y (palInv t C)

/-- `DEC_6` (R347). -/
def dec6 (P : Params) (Y : Bytes) (W C : Nat) : Res Bytes := do
  let f ← zdecode P.scratch Y
  hold P (.pipeline .filterInv) Y (filterDecode f (W * C) C)

/-- `DEC_7` is `DEC_6` (R348). -/
def dec7 (P : Params) (Y : Bytes) (W C : Nat) : Res Bytes := dec6 P Y W C

/-- `DEC_8` (R349). -/
def dec8 (P : Params) (Y : Bytes) (C : Nat) : Res Bytes := do
  let f ← zdecode P.scratch Y
  let q ← hold P (.pipeline .filterInv) Y (rleFilterDecode f C)
  hold P (.pipeline .rleInv) Y (rleInv q C)

/-- `DEC_9` (R350): two entropy decodes, then the filter reconstruction. -/
def dec9 (P : Params) (Y : Bytes) (W C : Nat) : Res Bytes := do
  let p6 ← zdecode P.scratch Y
  let f ← hold P (.pipeline .innerZdecode) Y (zdecode P.scratch p6)
  hold P (.pipeline .filterInv) Y (filterDecode f (W * C) C)

/-- `DEC_10` is `DEC_9` (R351). -/
def dec10 (P : Params) (Y : Bytes) (W C : Nat) : Res Bytes := dec9 P Y W C

/-- The dispatcher's decode side (R340). -/
def decMethod (P : Params) (m : Nat) (Y : Bytes) (W C : Nat) : Res Bytes :=
  match m with
  | 0 => dec0 Y
  | 1 => dec1 P Y C
  | 2 => dec2 P Y
  | 3 => dec3 P Y
  | 4 => dec4 P Y W C
  | 5 => dec5 P Y C
  | 6 => dec6 P Y W C
  | 7 => dec7 P Y W C
  | 8 => dec8 P Y C
  | 9 => dec9 P Y W C
  | 10 => dec10 P Y W C
  | _ => .error .unsupportedMethod

end Sys2Proof.Machine
end

