-- ==== Sys2Proof/Machine/Decoder.lean ====
section
/-! DEFINITION. The container parser, the decoder and the fast-path decoder (46_decoder R410 to R423). -/

namespace Sys2Proof.Machine

/-- A parsed header (R410). -/
structure Hdr where
  w : Nat
  h : Nat
  method : Nat
  alpha : Bool
  deriving DecidableEq, Repr

/-- The channel count the alpha flag implies (30_encoding R121, R411). -/
def Hdr.ch (hdr : Hdr) : Nat := if hdr.alpha then 4 else 3

/-- `PARSE_HEADER(S)` (R410, R411). -/
def parseHeader (S : Bytes) : Res Hdr :=
  if S.length < 2 ∨ S.getD 0 0 ≠ 0x50 ∨ S.getD 1 0 ≠ 0x58 then .error .badMagic
  else if S.length < 7 then .error .truncatedPayload
  else
    let flags := natAt S 6
    if 10 < flags % 16 then .error .unsupportedMethod
    else .ok
      { w := natAt S 2 + 256 * natAt S 3
        h := natAt S 4 + 256 * natAt S 5
        method := flags % 16
        alpha := decide (flags / 16 % 2 = 1) }

/-- The opaque black pixel of FIT (R415). -/
def fillPixel (C : Nat) : Bytes := if C = 3 then [0, 0, 0] else [0, 0, 0, 255]

/-- `FIT(X, N, C)`: exactly N pixels, missing ones opaque black, extras dropped (R415). -/
def fit (X : Bytes) (N C : Nat) : Bytes × Bool :=
  let Y :=
    if N * C ≤ X.length then X.take (N * C)
    else
      let k := X.length / C
      X.take (k * C) ++ repeatBytes (fillPixel C) (N - k)
  (Y, decide (X.length ≠ N * C))

/-- `OC` (R416). -/
def outChannels (outRgba alpha : Bool) : Nat := if outRgba = true ∨ alpha = true then 4 else 3

/-- `EXPAND(Y, C, OC)` (R416). -/
def expand (Y : Bytes) (C OC : Nat) : Bytes := if OC = C then Y else (px Y 3).flatMap fun p => p ++ [255]

/-- A decode that fails: its kind, and whether the destination window may have been written. The header's geometry
and capacity checks write nothing (R412, log 14). -/
structure DecodeFailure where
  kind : ErrKind
  mayWrite : Bool
  deriving DecidableEq, Repr

/-- A decode that succeeds: the pixels, the header and the `padded` flag (R413). -/
structure DecodedImage where
  data : Bytes
  hdr : Hdr
  padded : Bool
  deriving DecidableEq, Repr

/-- A stage's failure as a decode's (R413, 60_exceptions R452). -/
def stageFailure {α : Type} (r : Res α) : Except DecodeFailure α :=
  match r with
  | .ok a => .ok a
  | .error k => .error { kind := k, mayWrite := true }

/-- `DECODE_CONTAINER(S, out_rgba, dst_cap, SUB)` (R413), the checks in the order of R417. FIT and EXPAND are not run
under SCRATCH_BYTES: that the padded image between them counts nothing is the model's choice (93 I12, log 12). -/
def decodeContainer (P : Params) (S : Bytes) (outRgba : Bool) (dstCap : Nat) (covers : Nat → Bool) :
    Except DecodeFailure DecodedImage := do
  let hdr ← stageFailure (parseHeader S)
  if covers hdr.method = false then .error { kind := .unsupportedMethod, mayWrite := true }
  else if P.maxPixels < hdr.w * hdr.h then .error { kind := .dimensionError, mayWrite := false }
  else if dstCap < hdr.w * hdr.h * outChannels outRgba hdr.alpha then
    .error { kind := .bufferError, mayWrite := false }
  else if hdr.w * hdr.h = 0 then .ok { data := [], hdr := hdr, padded := false }
  else do
    let X ← stageFailure (decMethod P hdr.method (S.drop 7) hdr.w hdr.ch)
    let (Y, padded) := fit X (hdr.w * hdr.h) hdr.ch
    .ok { data := expand Y hdr.ch (outChannels outRgba hdr.alpha), hdr := hdr, padded := padded }

/-- `ALL`, the ids the full decoder covers (R413). -/
def coversAll (_m : Nat) : Bool := true

/-- The full decoder. -/
def decodeFull (P : Params) (S : Bytes) (outRgba : Bool) (dstCap : Nat) : Except DecodeFailure DecodedImage :=
  decodeContainer P S outRgba dstCap coversAll

/-- The fast-path decoder: FAST_SUBSET only (R419). -/
def decodeFastPath (P : Params) (S : Bytes) (outRgba : Bool) (dstCap : Nat) : Except DecodeFailure DecodedImage :=
  decodeContainer P S outRgba dstCap P.inFast

end Sys2Proof.Machine
end

