-- ==== Sys2Proof/Syntax.lean ====
section
/-! DEFINITION. The instructions of the engine: one constructor per row of the opcode table. A command word
(30_encoding R110 to R113) has no operand besides its row, because the table gives every legal M and F a row of its
own. The byte codes inside containers and streams (R119, R129, R133) are rows too. -/

namespace Sys2Proof

/-- The bits of a container's FLAGS byte beside the method id (R119): the alpha flag and the reserved bits 7:5.
The encoder writes `rsvd` 0 and the decoder ignores it (R122). -/
structure Flags where
  alpha : Bool
  rsvd : BitVec 3 := 0
  deriving DecidableEq, Repr

/-- Which kind of code a word or byte is: the opcode table's `format` column. -/
inductive CodeFormat where
  /-- a 32-bit command word written to CMD (R110) -/
  | cmd
  /-- the FLAGS byte at offset 6 of a container (R119) -/
  | flags
  /-- the tag byte of a filter-stream row (R128, R129) -/
  | rowTag
  /-- byte 0 of a method-4 payload (R125, R133) -/
  | m4Tag
  deriving DecidableEq, Repr

/-- Every row of spec/opcode_table.json. -/
inductive Instr where
  -- format CMD (R111, R112, R113)
  | encode
  | encodeM0
  | encodeM1
  | encodeM2
  | encodeM3
  | encodeM4
  | encodeM5
  | encodeM6
  | encodeM7
  | encodeM8
  | encodeM9
  | encodeM10
  | decode
  | decodeFast
  | decodeFastFb
  | hdrParse
  | rlePack
  | rleUnpack
  | predEncDelta
  | predEncAvg
  | predEncPaeth
  | predDecDelta
  | predDecAvg
  | predDecPaeth
  | filtEncNone
  | filtEncSub
  | filtEncUp
  | filtEncAverage
  | filtEncPaeth
  | filtEncAdaptive
  | filtDec
  | zencDefault
  | zencFiltered
  | zencHuffman
  | zdec
  | palEnc
  | palDec
  -- format FLAGS (R119, R120)
  | method0Identity (fl : Flags)
  | method1RleZ (fl : Flags)
  | method2Z (fl : Flags)
  | method3ZBestStrategy (fl : Flags)
  | method4PredZ (fl : Flags)
  | method5PaletteZ (fl : Flags)
  | method6AdaptiveFilterZ (fl : Flags)
  | method7UniformFilterZ (fl : Flags)
  | method8RleFilterZ (fl : Flags)
  | method9AdaptiveFilterZ2 (fl : Flags)
  | method10UniformFilterZ2 (fl : Flags)
  -- format ROW_TAG (R129)
  | filterTag0None
  | filterTag1Sub
  | filterTag2Up
  | filterTag3Average
  | filterTag4Paeth
  -- format M4_TAG (R133)
  | predTag0Delta
  | predTag1Avg
  | predTag2Paeth
  deriving DecidableEq, Repr

/-- The format a row stands in. -/
def Instr.format : Instr → CodeFormat
  | .method0Identity _ | .method1RleZ _ | .method2Z _ | .method3ZBestStrategy _ | .method4PredZ _
  | .method5PaletteZ _ | .method6AdaptiveFilterZ _ | .method7UniformFilterZ _ | .method8RleFilterZ _
  | .method9AdaptiveFilterZ2 _ | .method10UniformFilterZ2 _ => .flags
  | .filterTag0None | .filterTag1Sub | .filterTag2Up | .filterTag3Average | .filterTag4Paeth => .rowTag
  | .predTag0Delta | .predTag1Avg | .predTag2Paeth => .m4Tag
  | .encode | .encodeM0 | .encodeM1 | .encodeM2 | .encodeM3 | .encodeM4 | .encodeM5 | .encodeM6 | .encodeM7
  | .encodeM8 | .encodeM9 | .encodeM10 | .decode | .decodeFast | .decodeFastFb | .hdrParse | .rlePack
  | .rleUnpack | .predEncDelta | .predEncAvg | .predEncPaeth | .predDecDelta | .predDecAvg | .predDecPaeth
  | .filtEncNone | .filtEncSub | .filtEncUp | .filtEncAverage | .filtEncPaeth | .filtEncAdaptive | .filtDec
  | .zencDefault | .zencFiltered | .zencHuffman | .zdec | .palEnc | .palDec => .cmd

end Sys2Proof
end

