-- ==== Sys2Proof/WellFormed.lean ====
section
/-! DEFINITION. What a well-formed instruction is: a FLAGS byte as the encoder writes it has its reserved bits 0
(30_encoding R119, R122). No other row has a field of its own. -/

namespace Sys2Proof

/-- The FLAGS fields as the encoder writes them: bits 7:5 are 0 (R122). -/
def Flags.wellFormed (fl : Flags) : Bool := fl.rsvd == 0

/-- Well-formedness of an instruction: every FLAGS row has reserved bits 0 (R119, R122). -/
def Instr.wellFormed : Instr → Bool
  | .method0Identity fl | .method1RleZ fl | .method2Z fl | .method3ZBestStrategy fl | .method4PredZ fl
  | .method5PaletteZ fl | .method6AdaptiveFilterZ fl | .method7UniformFilterZ fl | .method8RleFilterZ fl
  | .method9AdaptiveFilterZ2 fl | .method10UniformFilterZ2 fl => fl.wellFormed
  | .encode | .encodeM0 | .encodeM1 | .encodeM2 | .encodeM3 | .encodeM4 | .encodeM5 | .encodeM6 | .encodeM7
  | .encodeM8 | .encodeM9 | .encodeM10 | .decode | .decodeFast | .decodeFastFb | .hdrParse | .rlePack
  | .rleUnpack | .predEncDelta | .predEncAvg | .predEncPaeth | .predDecDelta | .predDecAvg | .predDecPaeth
  | .filtEncNone | .filtEncSub | .filtEncUp | .filtEncAverage | .filtEncPaeth | .filtEncAdaptive | .filtDec
  | .zencDefault | .zencFiltered | .zencHuffman | .zdec | .palEnc | .palDec
  | .filterTag0None | .filterTag1Sub | .filterTag2Up | .filterTag3Average | .filterTag4Paeth
  | .predTag0Delta | .predTag1Avg | .predTag2Paeth => true

end Sys2Proof
end

