-- ==== Sys2Proof/Decode.lean ====
section
/-! DEFINITION. Decoding: the total functions from a command word (30_encoding R115), a FLAGS byte (R119, R120,
R122), a row tag (R129, R251) and a method-4 tag (R125) to an instruction or a rejection by name; then the encoder,
from the same tables; then the assembler syntax of R138. -/

namespace Sys2Proof

/-- What a code stands for. -/
inductive Decoded where
  /-- a row of the opcode table -/
  | instr (i : Instr)
  /-- a command word R114 makes illegal: the command completes with ILLEGAL_COMMAND -/
  | illegal
  /-- a method id of 11 to 15, of ENCODE_M (R112) or of a container (R120): UNSUPPORTED_METHOD -/
  | unsupported (m : Nat)
  /-- a row tag over 4 (R251) or a method-4 tag over 2 (R125): CORRUPT_PAYLOAD -/
  | corrupt (tag : Byte)
  deriving DecidableEq, Repr

/-- The bits of a code, in the format it stands in. -/
inductive Code where
  | cmd (w : Word)
  | flags (b : Byte)
  | rowTag (b : Byte)
  | m4Tag (b : Byte)
  deriving DecidableEq, Repr

/-- The OP field, bits 7:0 of a command word (R110). -/
def cmdOp (w : Word) : Nat := (w.extractLsb' 0 8).toNat

/-- The M field, bits 11:8, zero-extended (R110, R112). -/
def cmdM (w : Word) : Nat := (w.extractLsb' 8 4).toNat

/-- The F field, bit 12 (R110, R113). -/
def cmdF (w : Word) : Bool := w.getLsbD 12

/-- The RSVD field, bits 31:13 (R110). -/
def cmdRsvd (w : Word) : Nat := (w.extractLsb' 13 19).toNat

/-- The OP values R111 lists. -/
def opListed (op : Nat) : Bool :=
  (decide (1 ≤ op) && decide (op ≤ 5)) || (decide (0x10 ≤ op) && decide (op ≤ 0x19))

/-- The command of a listed OP with a legal M and F (R111, R112, R113); none where M is outside the legal set. -/
def cmdRow (op m : Nat) (f : Bool) : Option Instr :=
  match op, m, f with
  | 0x01, 0, false => some .encode
  | 0x02, 0, false => some .encodeM0
  | 0x02, 1, false => some .encodeM1
  | 0x02, 2, false => some .encodeM2
  | 0x02, 3, false => some .encodeM3
  | 0x02, 4, false => some .encodeM4
  | 0x02, 5, false => some .encodeM5
  | 0x02, 6, false => some .encodeM6
  | 0x02, 7, false => some .encodeM7
  | 0x02, 8, false => some .encodeM8
  | 0x02, 9, false => some .encodeM9
  | 0x02, 10, false => some .encodeM10
  | 0x03, 0, false => some .decode
  | 0x04, 0, false => some .decodeFast
  | 0x04, 0, true => some .decodeFastFb
  | 0x05, 0, false => some .hdrParse
  | 0x10, 0, false => some .rlePack
  | 0x11, 0, false => some .rleUnpack
  | 0x12, 0, false => some .predEncDelta
  | 0x12, 1, false => some .predEncAvg
  | 0x12, 2, false => some .predEncPaeth
  | 0x13, 0, false => some .predDecDelta
  | 0x13, 1, false => some .predDecAvg
  | 0x13, 2, false => some .predDecPaeth
  | 0x14, 0, false => some .filtEncNone
  | 0x14, 1, false => some .filtEncSub
  | 0x14, 2, false => some .filtEncUp
  | 0x14, 3, false => some .filtEncAverage
  | 0x14, 4, false => some .filtEncPaeth
  | 0x14, 5, false => some .filtEncAdaptive
  | 0x15, 0, false => some .filtDec
  | 0x16, 0, false => some .zencDefault
  | 0x16, 1, false => some .zencFiltered
  | 0x16, 2, false => some .zencHuffman
  | 0x17, 0, false => some .zdec
  | 0x18, 0, false => some .palEnc
  | 0x19, 0, false => some .palDec
  | _, _, _ => none

/-- `decode_cmd(w)` (R115): the checks in the order shown there, so a word that fails several reports the first. -/
def decodeCmd (w : Word) : Decoded :=
  if cmdRsvd w ≠ 0 then .illegal
  else if opListed (cmdOp w) = false then .illegal
  else if cmdF w = true ∧ cmdOp w ≠ 0x04 then .illegal
  else if cmdOp w = 0x02 ∧ 11 ≤ cmdM w then .unsupported (cmdM w)
  else match cmdRow (cmdOp w) (cmdM w) (cmdF w) with
    | some i => .instr i
    | none => .illegal

/-- The row of a method id 0 to 10 (R120). -/
def methodRow (m : Nat) (fl : Flags) : Option Instr :=
  match m with
  | 0 => some (.method0Identity fl)
  | 1 => some (.method1RleZ fl)
  | 2 => some (.method2Z fl)
  | 3 => some (.method3ZBestStrategy fl)
  | 4 => some (.method4PredZ fl)
  | 5 => some (.method5PaletteZ fl)
  | 6 => some (.method6AdaptiveFilterZ fl)
  | 7 => some (.method7UniformFilterZ fl)
  | 8 => some (.method8RleFilterZ fl)
  | 9 => some (.method9AdaptiveFilterZ2 fl)
  | 10 => some (.method10UniformFilterZ2 fl)
  | _ => none

/-- The METHOD field of a FLAGS byte, bits 3:0 (R119). -/
def flagsMethod (b : Byte) : Nat := (b.extractLsb' 0 4).toNat

/-- The ALPHA field of a FLAGS byte, bit 4 (R119, R121). -/
def flagsAlpha (b : Byte) : Bool := b.getLsbD 4

/-- A FLAGS byte: bits 7:5 are read as if they were 0 (R122); ids 11 to 15 are unsupported (R120). -/
def decodeFlags (b : Byte) : Decoded :=
  match methodRow (flagsMethod b) { alpha := flagsAlpha b } with
  | some i => .instr i
  | none => .unsupported (flagsMethod b)

/-- A row tag (R129); 5 to 255 are invalid (R251). -/
def decodeRowTag (b : Byte) : Decoded :=
  match b.toNat with
  | 0 => .instr .filterTag0None
  | 1 => .instr .filterTag1Sub
  | 2 => .instr .filterTag2Up
  | 3 => .instr .filterTag3Average
  | 4 => .instr .filterTag4Paeth
  | _ => .corrupt b

/-- A method-4 tag (R125, R133); 3 to 255 are invalid. -/
def decodeM4Tag (b : Byte) : Decoded :=
  match b.toNat with
  | 0 => .instr .predTag0Delta
  | 1 => .instr .predTag1Avg
  | 2 => .instr .predTag2Paeth
  | _ => .corrupt b

/-- Decoding of a code in its format. -/
def decode : Code → Decoded
  | .cmd w => decodeCmd w
  | .flags b => decodeFlags b
  | .rowTag b => decodeRowTag b
  | .m4Tag b => decodeM4Tag b

/-- A code read from one byte of internal storage; a command word is no byte, so the format CMD has none. -/
def byteCode (fmt : CodeFormat) (b : Byte) : Option Code :=
  match fmt with
  | .cmd => none
  | .flags => some (.flags b)
  | .rowTag => some (.rowTag b)
  | .m4Tag => some (.m4Tag b)

/-- The instruction of a decoded code, if it is one. -/
def Decoded.instr? : Decoded → Option Instr
  | .instr i => some i
  | .illegal => none
  | .unsupported _ => none
  | .corrupt _ => none

/-- What the decoder reads from one byte code whose format is not said. The table gives the rows of FLAGS, ROW_TAG and
M4_TAG the same 8 bits. The byte is read as the row whose bits the table fixes most fully: a row tag if it is one
(all 8 bits), else a FLAGS byte (4 bits); a method-4 tag is never read here (log 6). -/
def decodeTableByte (b : Byte) : Option Instr :=
  match (decodeRowTag b).instr? with
  | some i => some i
  | none => (decodeFlags b).instr?

/-- What the decoder reads from a word numbered as the opcode table numbers it: a 32-bit word is a command word, an
8-bit one a byte code. -/
def decodeTableWord (nbits w : Nat) : Option Instr :=
  if nbits = 32 then
    if w < 2 ^ 32 then (decodeCmd (BitVec.ofNat 32 w)).instr? else none
  else if nbits = 8 then
    if w < 2 ^ 8 then decodeTableByte (BitVec.ofNat 8 w) else none
  else none

/-! ## The encoder -/

/-- A command word from its fields, RSVD 0 (R110). -/
def cmdWord (op m : Nat) (f : Bool) : Word := BitVec.ofNat 32 (op + 256 * m + 4096 * f.toNat)

/-- A FLAGS byte from its fields (R119). -/
def flagsByte (m : Nat) (fl : Flags) : Byte := BitVec.ofNat 8 (m + 16 * fl.alpha.toNat + 32 * fl.rsvd.toNat)

/-- The code of an instruction: R111 to R113 for command words, R119 for FLAGS, R129 and R133 for tags. -/
def encode : Instr → Code
  | .encode => .cmd (cmdWord 0x01 0 false)
  | .encodeM0 => .cmd (cmdWord 0x02 0 false)
  | .encodeM1 => .cmd (cmdWord 0x02 1 false)
  | .encodeM2 => .cmd (cmdWord 0x02 2 false)
  | .encodeM3 => .cmd (cmdWord 0x02 3 false)
  | .encodeM4 => .cmd (cmdWord 0x02 4 false)
  | .encodeM5 => .cmd (cmdWord 0x02 5 false)
  | .encodeM6 => .cmd (cmdWord 0x02 6 false)
  | .encodeM7 => .cmd (cmdWord 0x02 7 false)
  | .encodeM8 => .cmd (cmdWord 0x02 8 false)
  | .encodeM9 => .cmd (cmdWord 0x02 9 false)
  | .encodeM10 => .cmd (cmdWord 0x02 10 false)
  | .decode => .cmd (cmdWord 0x03 0 false)
  | .decodeFast => .cmd (cmdWord 0x04 0 false)
  | .decodeFastFb => .cmd (cmdWord 0x04 0 true)
  | .hdrParse => .cmd (cmdWord 0x05 0 false)
  | .rlePack => .cmd (cmdWord 0x10 0 false)
  | .rleUnpack => .cmd (cmdWord 0x11 0 false)
  | .predEncDelta => .cmd (cmdWord 0x12 0 false)
  | .predEncAvg => .cmd (cmdWord 0x12 1 false)
  | .predEncPaeth => .cmd (cmdWord 0x12 2 false)
  | .predDecDelta => .cmd (cmdWord 0x13 0 false)
  | .predDecAvg => .cmd (cmdWord 0x13 1 false)
  | .predDecPaeth => .cmd (cmdWord 0x13 2 false)
  | .filtEncNone => .cmd (cmdWord 0x14 0 false)
  | .filtEncSub => .cmd (cmdWord 0x14 1 false)
  | .filtEncUp => .cmd (cmdWord 0x14 2 false)
  | .filtEncAverage => .cmd (cmdWord 0x14 3 false)
  | .filtEncPaeth => .cmd (cmdWord 0x14 4 false)
  | .filtEncAdaptive => .cmd (cmdWord 0x14 5 false)
  | .filtDec => .cmd (cmdWord 0x15 0 false)
  | .zencDefault => .cmd (cmdWord 0x16 0 false)
  | .zencFiltered => .cmd (cmdWord 0x16 1 false)
  | .zencHuffman => .cmd (cmdWord 0x16 2 false)
  | .zdec => .cmd (cmdWord 0x17 0 false)
  | .palEnc => .cmd (cmdWord 0x18 0 false)
  | .palDec => .cmd (cmdWord 0x19 0 false)
  | .method0Identity fl => .flags (flagsByte 0 fl)
  | .method1RleZ fl => .flags (flagsByte 1 fl)
  | .method2Z fl => .flags (flagsByte 2 fl)
  | .method3ZBestStrategy fl => .flags (flagsByte 3 fl)
  | .method4PredZ fl => .flags (flagsByte 4 fl)
  | .method5PaletteZ fl => .flags (flagsByte 5 fl)
  | .method6AdaptiveFilterZ fl => .flags (flagsByte 6 fl)
  | .method7UniformFilterZ fl => .flags (flagsByte 7 fl)
  | .method8RleFilterZ fl => .flags (flagsByte 8 fl)
  | .method9AdaptiveFilterZ2 fl => .flags (flagsByte 9 fl)
  | .method10UniformFilterZ2 fl => .flags (flagsByte 10 fl)
  | .filterTag0None => .rowTag 0
  | .filterTag1Sub => .rowTag 1
  | .filterTag2Up => .rowTag 2
  | .filterTag3Average => .rowTag 3
  | .filterTag4Paeth => .rowTag 4
  | .predTag0Delta => .m4Tag 0
  | .predTag1Avg => .m4Tag 1
  | .predTag2Paeth => .m4Tag 2

/-! ## Assembler syntax -/

/-- An OP mnemonic of R111. -/
def asmOp (mnemonic : String) : Option Nat :=
  match mnemonic with
  | "ENCODE" => some 0x01
  | "ENCODE_M" => some 0x02
  | "DECODE" => some 0x03
  | "DECODE_FAST" => some 0x04
  | "HDR_PARSE" => some 0x05
  | "RLE_PACK" => some 0x10
  | "RLE_UNPACK" => some 0x11
  | "PRED_ENC" => some 0x12
  | "PRED_DEC" => some 0x13
  | "FILT_ENC" => some 0x14
  | "FILT_DEC" => some 0x15
  | "ZENC" => some 0x16
  | "ZDEC" => some 0x17
  | "PAL_ENC" => some 0x18
  | "PAL_DEC" => some 0x19
  | _ => none

/-- A decimal operand 0 to 10 (R138). -/
def asmDecimal (operand : String) : Option Nat :=
  match operand with
  | "0" => some 0
  | "1" => some 1
  | "2" => some 2
  | "3" => some 3
  | "4" => some 4
  | "5" => some 5
  | "6" => some 6
  | "7" => some 7
  | "8" => some 8
  | "9" => some 9
  | "10" => some 10
  | _ => none

/-- The operand names R138 accepts for the numbers shown: `paeth` is 2 for a predictor and 4 for a filter. -/
def asmName (op : Nat) (operand : String) : Option Nat :=
  if op = 0x12 ∨ op = 0x13 then
    match operand with
    | "delta" => some 0
    | "avg" => some 1
    | "paeth" => some 2
    | _ => none
  else if op = 0x14 then
    match operand with
    | "none" => some 0
    | "sub" => some 1
    | "up" => some 2
    | "average" => some 3
    | "paeth" => some 4
    | "adaptive" => some 5
    | _ => none
  else if op = 0x16 then
    match operand with
    | "default" => some 0
    | "filtered" => some 1
    | "huffman" => some 2
    | _ => none
  else none

/-- Whether an OP takes an M operand in the assembler (R138). -/
def asmTakesM (op : Nat) : Bool := op == 0x02 || op == 0x12 || op == 0x13 || op == 0x14 || op == 0x16

/-- The instruction of one assembler line: a mnemonic and its operand, if it has one (R138). Where R138 writes FILT_ENC's
operand as `t = 0..4, or 5 written adaptive`, both `5` and `adaptive` are accepted (DESIGN CHOICE, log 33). -/
def assemble (mnemonic : String) (operand : Option String) : Option Instr :=
  match asmOp mnemonic, operand with
  | none, _ => none
  | some op, none => if asmTakesM op then none else cmdRow op 0 false
  | some op, some a =>
    if op = 0x04 then (if a = "fb" then cmdRow op 0 true else none)
    else if asmTakesM op then
      match asmDecimal a, asmName op a with
      | some m, _ => cmdRow op m false
      | none, some m => cmdRow op m false
      | none, none => none
    else none

end Sys2Proof
end

