-- ==== Sys2Proof/Machine/State.lean ====
section
/-! DEFINITION. The state of the machine: the register block (10_state R30 to R61), the command phase, the latched
record, internal storage, system memory (20_memory R80), and the model's own fields (logs 1, 3, 4, 8). -/

namespace Sys2Proof.Machine

/-! ## Memory -/

/-- System memory (20_memory R80): the bytes that are not what an unlisted address reads as, by rising address. -/
abbrev Memory := List Host.Cell

/-- What an unlisted address reads as. The spec gives memory no initial contents; this is the model's choice (log 2). -/
def unlistedByte : Byte := 0

/-- The number of addresses of the bus (R80). -/
def addressSpace : Nat := 2 ^ 32

/-- Canonical form from address `lo` on. -/
def Memory.wfFrom : Nat → Memory → Bool
  | _, [] => true
  | lo, c :: cs =>
    decide (lo ≤ c.1) && decide (c.1 < addressSpace) && (c.2 != unlistedByte) && Memory.wfFrom (c.1 + 1) cs

/-- The canonical form: addresses strictly rising, inside the address space, no byte an unlisted address reads as. -/
def Memory.wf (m : Memory) : Bool := Memory.wfFrom 0 m

/-! ## Registers -/

/-- The stored fields of STATUS (10_state R38). BUSY is not stored: it is 1 exactly while the phase is BUSY (R56). -/
structure Status where
  done : Bool
  err : Bool
  drop : Bool
  errcode : BitVec 4
  resMethod : BitVec 4
  resAlpha : Bool
  padded : Bool
  fellback : Bool
  palExcl : Bool
  deriving DecidableEq, Repr

/-- STATUS after reset (R61). -/
def Status.reset : Status :=
  { done := false, err := false, drop := false, errcode := 0, resMethod := 0, resAlpha := false, padded := false,
    fellback := false, palExcl := false }

/-- The latched operand record L (10_state R57). -/
structure Latch where
  word : Word
  outRgba : Bool
  srcAddr : Word
  srcLen : Word
  dstAddr : Word
  dstCap : Word
  w : Word
  h : Word
  ch : Word
  deriving DecidableEq, Repr

/-- The command phase (10_state R56). The latched record exists only while BUSY (R57). `tainted` says that the host
has written one of the running command's windows since acceptance, which makes its result a draw (20_memory R99,
log 9). -/
inductive Phase where
  | idle
  | busy (l : Latch) (tainted : Bool)
  deriving DecidableEq, Repr

/-- Internal storage while a command runs (10_state R59): not architecturally visible, and read only by the codes
inside the stream that is being decoded. Its layout is the model's (log 5). -/
structure Work where
  /-- the bytes of the stream still to be consumed -/
  inp : Bytes
  /-- the reconstructed row above, for the row tags (42_filter_engine R240, R249) -/
  above : Bytes
  /-- the bytes reconstructed so far -/
  out : Bytes
  /-- the image's width, height and channel count -/
  w : Nat
  h : Nat
  c : Nat
  /-- the kind of the stage that failed, if one did -/
  fail : Option ErrKind
  deriving DecidableEq, Repr

/-- Internal storage that holds nothing (70_reset_and_hazards R490). -/
def Work.empty : Work := { inp := [], above := [], out := [], w := 0, h := 0, c := 0, fail := none }

/-! ## The model's inputs -/

/-- What can happen next, in the interleaving this run takes (60_exceptions R461, log 3). -/
inductive Event where
  /-- a bus master writes bytes at an address, one access (30_encoding R139) -/
  | busWrite (addr : Word) (data : Bytes)
  /-- a bus master reads `n` bytes at an address, one access -/
  | busRead (addr : Word) (n : Nat)
  /-- the platform asserts the hardware reset input (70_reset_and_hazards R490) -/
  | hwReset
  /-- the engine's turn: the complete step, if the phase is BUSY (40_commands R161) -/
  | engine
  /-- the engine consumes the next code byte of the stream in internal storage (log 5) -/
  | stage (fmt : CodeFormat)
  /-- the host polls STATUS until DONE reads 1 (30_encoding R139, log 22) -/
  | wait
  deriving DecidableEq, Repr

/-! ## The state -/

/-- The state of the machine. -/
structure State where
  /-- the parameters (00_scope R10 to R18); no step changes them (log 1) -/
  cfg : Params
  /-- the command phase and the latched record (10_state R56, R57) -/
  phase : Phase
  /-- CTRL bit 0 (R35) -/
  outRgba : Bool
  /-- CTRL bit 1 (R35) -/
  irqEn : Bool
  /-- CMD (R37) -/
  cmd : Word
  /-- STATUS (R38) -/
  status : Status
  /-- SRC_ADDR (R41) -/
  srcAddr : Word
  /-- SRC_LEN (R42) -/
  srcLen : Word
  /-- DST_ADDR (R43) -/
  dstAddr : Word
  /-- DST_CAP (R44) -/
  dstCap : Word
  /-- DST_LEN (R45) -/
  dstLen : Word
  /-- IMG_W (R46) -/
  imgW : Word
  /-- IMG_H (R47) -/
  imgH : Word
  /-- IMG_CH (R48) -/
  imgCh : Word
  /-- RES_W (R49) -/
  resW : Word
  /-- RES_H (R50) -/
  resH : Word
  /-- RES_CH (R51) -/
  resCh : Word
  /-- CAND_SIZE[0..10] (R52) -/
  candSize : Vector Word 11
  /-- internal storage (R59) -/
  work : Work
  /-- system memory (20_memory R80) -/
  mem : Memory
  /-- the model's own: the accesses and engine turns still to come (log 3) -/
  inputs : List Event
  /-- the model's own: the bytes the last bus read returned (log 8) -/
  rdata : Bytes
  /-- the model's own: how many free values have been drawn (log 4) -/
  draws : Nat
  deriving DecidableEq, Repr

/-- CAND_SIZE after reset and after the acceptance of a legal encode (R52, R160). -/
def candNone : Vector Word 11 := Vector.replicate 11 0xFFFFFFFF

/-- The machine right after reset (R61, 70_reset_and_hazards R490), with nothing in memory and nothing to come. -/
def State.reset : State :=
  { cfg := Params.default
    phase := .idle
    outRgba := false
    irqEn := false
    cmd := 0
    status := Status.reset
    srcAddr := 0
    srcLen := 0
    dstAddr := 0
    dstCap := 0
    dstLen := 0
    imgW := 0
    imgH := 0
    imgCh := 0
    resW := 0
    resH := 0
    resCh := 0
    candSize := candNone
    work := Work.empty
    mem := []
    inputs := []
    rdata := []
    draws := 0 }

/-! ## Reasons to stop -/

/-- Faults: the bus access does not exist. -/
inductive Fault where
  /-- A bus access to an address where no memory is: MEM_OK is false there, or it is past the top of the address
  space (00_scope R18, 20_memory R80, log 17). Raised by a host access, never by a command. Safe: the model stops
  where a platform might answer with a bus error or with some value. -/
  | noMemory
  deriving DecidableEq, Repr

/-- Refusals: the spec does not define the step. -/
inductive Refusal where
  /-- An instruction with no meaning yet, by mnemonic. Safe. -/
  | notModelled (mnemonic : String)
  /-- An access to the register block that is not one aligned 32-bit access inside it (10_state R54, 93 I1). Raised
  by a host access. Safe: the spec tells a model to refuse it. -/
  | registerAccess
  /-- A command whose window lies over a device (20_memory R93). Raised by a command that passed its operand checks
  (log 16). Safe: the spec tells a model to refuse it. -/
  | deviceWindow
  /-- A host access to a device region: the spec does not give what a device does (log 17). Raised by a host access.
  Safe. -/
  | deviceAccess
  deriving DecidableEq, Repr

end Sys2Proof.Machine
end

