-- ==== Sys2Proof/Machine/Flags.lean ====
section
/-! DEFINITION. Every computation of STATUS (10_state R38 to R40, 60_exceptions R455) and of the interrupt output
(R58). The engine has no other flags (R60). -/

namespace Sys2Proof.Machine

/-- Whether the phase is BUSY (R56). -/
def Phase.isBusy : Phase → Bool
  | .idle => false
  | .busy _ _ => true

/-- The STATUS register as a read returns it; reserved bits read 0 (R38). -/
def Status.toWord (st : Status) (busy : Bool) : Word :=
  0#8 ++ BitVec.ofBool st.palExcl ++ BitVec.ofBool st.fellback ++ BitVec.ofBool st.padded ++
    BitVec.ofBool st.resAlpha ++ st.resMethod ++ 0#4 ++ st.errcode ++ 0#4 ++ BitVec.ofBool st.drop ++
    BitVec.ofBool st.err ++ BitVec.ofBool st.done ++ BitVec.ofBool busy

/-- A host write of v: DONE, ERR and DROP are cleared where v has a 1, nothing else changes (R39). -/
def Status.writeOneToClear (st : Status) (v : Word) : Status :=
  { st with
    done := st.done && !v.getLsbD 1
    err := st.err && !v.getLsbD 2
    drop := st.drop && !v.getLsbD 3 }

/-- STATUS at acceptance: everything but DROP is cleared (R40). -/
def Status.accepted (st : Status) : Status := { Status.reset with drop := st.drop }

/-- STATUS after a CMD write that was dropped (R37). -/
def Status.dropped (st : Status) : Status := { st with drop := true }

/-- STATUS at an error completion with kind k (R40, R455). -/
def Status.failed (st : Status) (k : ErrKind) : Status :=
  { Status.reset with done := true, err := true, drop := st.drop, errcode := errCode k }

/-- The STATUS result fields a command's rule gives (R38, R40). -/
structure ResultFlags where
  method : Nat
  alpha : Bool
  padded : Bool
  fellback : Bool
  palExcl : Bool
  deriving DecidableEq, Repr

/-- The result fields of a stage command (40_commands section 4). -/
def ResultFlags.none : ResultFlags :=
  { method := 0, alpha := false, padded := false, fellback := false, palExcl := false }

/-- STATUS at a successful completion (R40, 60_exceptions R456). -/
def Status.succeeded (st : Status) (f : ResultFlags) : Status :=
  { done := true
    err := false
    drop := st.drop
    errcode := 0
    resMethod := BitVec.ofNat 4 f.method
    resAlpha := f.alpha
    padded := f.padded
    fellback := f.fellback
    palExcl := f.palExcl }

/-- STATUS at the completion of a command whose buffers the host wrote: DONE is set as always, DROP is unchanged, and
the error and result fields are free (20_memory R99, 70_reset_and_hazards R495). `w` is a free value. -/
def Status.drawn (st : Status) (w : Word) : Status :=
  { done := true
    err := w.getLsbD 2
    drop := st.drop
    errcode := w.extractLsb' 8 4
    resMethod := w.extractLsb' 16 4
    resAlpha := w.getLsbD 20
    padded := w.getLsbD 21
    fellback := w.getLsbD 22
    palExcl := w.getLsbD 23 }

/-- `irq = CTRL.IRQ_EN and STATUS.DONE` (R58, R458). -/
def State.irq (s : State) : Bool := s.irqEn && s.status.done

end Sys2Proof.Machine
end

