-- ==== Sys2Proof/Machine/Memory.lean ====
section
/-! DEFINITION. Operations over system memory (20_memory R80, R82, R83) and the free values of a window (R84, R99). -/

namespace Sys2Proof.Machine

/-- The byte at an address. -/
def Memory.get : Memory → Nat → Byte
  | [], _ => unlistedByte
  | c :: cs, a => if c.1 = a then c.2 else Memory.get cs a

/-- One byte stored in a sorted list of cells; a byte an unlisted address reads as is not listed. -/
def Memory.insert (a : Nat) (b : Byte) : Memory → Memory
  | [] => if b = unlistedByte then [] else [(a, b)]
  | c :: cs =>
    if a < c.1 then (if b = unlistedByte then c :: cs else (a, b) :: c :: cs)
    else if a = c.1 then (if b = unlistedByte then cs else (a, b) :: cs)
    else c :: Memory.insert a b cs

/-- One byte written; an address past the top of the address space does not exist (R80). -/
def Memory.put (m : Memory) (a : Nat) (b : Byte) : Memory :=
  if a < addressSpace then Memory.insert a b m else m

/-- `MemRead(a, n)` (R82). -/
def Memory.read (m : Memory) (a n : Nat) : Bytes := (List.range n).map fun i => m.get (a + i)

/-- `MemWrite(a, |D|, D)` (R83). -/
def Memory.write : Memory → Nat → Bytes → Memory
  | m, _, [] => m
  | m, a, b :: bs => Memory.write (m.put a b) (a + 1) bs

/-- The n-th free byte (log 4). -/
def freeByte (n : Nat) : Byte := (Config.freeWord n).setWidth 8

/-- Whether an address holds ordinary or other memory: inside the address space, MEM_OK, outside the register block
(R80, R86). -/
def holdsMemory (P : Params) (a : Nat) : Bool :=
  decide (a < addressSpace) && P.memOk a && !P.inBlock a

/-- Free values put over those of `n` addresses from `a` on that may change, `free` (R84, R99, log 21). -/
def Memory.drawOver (free : Nat → Bool) (d : Nat) : Nat → Nat → Memory → Memory
  | 0, _, m => m
  | n + 1, a, m => Memory.drawOver free (d + 1) n (a + 1) (if free a then m.put a (freeByte d) else m)

end Sys2Proof.Machine
end

