-- ==== Sys2Proof/Machine/Operands.lean ====
section
/-! DEFINITION. The operands of a command: its windows (20_memory R81, R85 to R87) and the operand checks of
40_commands R163, in the order that rule gives. -/

namespace Sys2Proof.Machine

/-! ## Windows (R81) -/

/-- Whether an address lies in `[base, base + len)`; a window of length 0 contains none (R81). -/
def inWindow (base len : Word) (a : Nat) : Bool := decide (base.toNat ≤ a) && decide (a < base.toNat + len.toNat)

/-- Whether an address lies in the source window (R81). -/
def Latch.inSrc (l : Latch) (a : Nat) : Bool := inWindow l.srcAddr l.srcLen a

/-- Whether an address lies in the destination window (R81). -/
def Latch.inDst (l : Latch) (a : Nat) : Bool := inWindow l.dstAddr l.dstCap a

/-- Every address of `[base, base + n)` has the property. -/
def allFrom (p : Nat → Bool) : Nat → Nat → Bool
  | 0, _ => true
  | n + 1, a => p a && allFrom p n (a + 1)

/-- R85: the window does not pass the top of the address space; the sum is the mathematical one. -/
def fitsSpace (base len : Word) : Bool := decide (base.toNat + len.toNat ≤ addressSpace)

/-- R86: every address of the window is memory and none is in the register block. -/
def onMemory (P : Params) (base len : Word) : Bool :=
  allFrom (fun a => P.memOk a && !P.inBlock a) len.toNat base.toNat

/-- R87: both windows are non-empty and share an address. -/
def Latch.windowsMeet (l : Latch) : Bool :=
  decide (0 < l.srcLen.toNat) && decide (0 < l.dstCap.toNat) &&
    decide (l.srcAddr.toNat < l.dstAddr.toNat + l.dstCap.toNat) &&
    decide (l.dstAddr.toNat < l.srcAddr.toNat + l.srcLen.toNat)

/-- Whether some address of the window belongs to a device (R93). -/
def onDevice (P : Params) (base len : Word) : Bool :=
  !allFrom (fun a => !P.isDevice a) len.toNat base.toNat

/-- Whether one of a command's windows lies over a device (R93). -/
def Latch.overDevice (P : Params) (l : Latch) : Bool :=
  onDevice P l.srcAddr l.srcLen || onDevice P l.dstAddr l.dstCap

/-! ## The operand checks (R163) -/

/-- A check: `err k` unless the condition holds. -/
def require (cond : Bool) (k : ErrKind) : Res Unit := if cond then .ok () else .error k

/-- `chk_ch` (R163 item 1). -/
def chkCh (l : Latch) : Res Unit := require (l.ch == 3 || l.ch == 4) .illegalCommand

/-- `chk_win` (R163 item 2): R85, R86 and R87, all with the kind BUFFER_ERROR. -/
def chkWin (P : Params) (l : Latch) : Res Unit :=
  require (fitsSpace l.srcAddr l.srcLen && fitsSpace l.dstAddr l.dstCap && onMemory P l.srcAddr l.srcLen &&
    onMemory P l.dstAddr l.dstCap && !l.windowsMeet) .bufferError

/-- `chk_geom` (R163 item 3). -/
def chkGeom (P : Params) (l : Latch) : Res Unit :=
  require (decide (l.w.toNat ≤ 65535) && decide (l.h.toNat ≤ 65535) &&
    decide (l.w.toNat * l.h.toNat ≤ P.maxPixels)) .dimensionError

/-- The byte length of the image the latched geometry describes (20_memory R90). -/
def Latch.imageLen (l : Latch) : Nat := l.w.toNat * l.h.toNat * l.ch.toNat

/-- The checks of ENCODE and ENCODE_M (R164, R165): the source holds at least the image. -/
def checksEncode (P : Params) (l : Latch) : Res Unit := do
  chkCh l
  chkWin P l
  chkGeom P l
  require (decide (l.imageLen ≤ l.srcLen.toNat)) .bufferError

/-- The checks of DECODE, DECODE_FAST, HDR_PARSE, ZENC and ZDEC (R166, R167, R168, R175, R176). -/
def checksWindows (P : Params) (l : Latch) : Res Unit := chkWin P l

/-- The checks of RLE_PACK and PAL_ENC (R169, R177): whole pixels. -/
def checksPixels (P : Params) (l : Latch) : Res Unit := do
  chkCh l
  chkWin P l
  require (l.srcLen.toNat % l.ch.toNat == 0) .dimensionError

/-- The checks of RLE_UNPACK and PAL_DEC (R170, R178). -/
def checksStream (P : Params) (l : Latch) : Res Unit := do
  chkCh l
  chkWin P l

/-- The checks of PRED_ENC and FILT_ENC (R171, R173): the source is exactly the image. -/
def checksImage (P : Params) (l : Latch) : Res Unit := do
  chkCh l
  chkWin P l
  chkGeom P l
  require (l.srcLen.toNat == l.imageLen) .dimensionError

/-- The checks of PRED_DEC (R172): variant 2 has no width 0 unless the source is empty. -/
def checksResiduals (v : Variant) (P : Params) (l : Latch) : Res Unit := do
  chkCh l
  chkWin P l
  chkGeom P l
  require (!(v == .paeth && l.w.toNat == 0 && decide (0 < l.srcLen.toNat))) .dimensionError

/-- The checks of FILT_DEC (R174). -/
def checksFilterStream (P : Params) (l : Latch) : Res Unit := do
  chkCh l
  chkWin P l
  chkGeom P l

/-- The operand checks of each command (R163 to R178); a byte code has none. -/
def checksOf : Instr → Params → Latch → Res Unit
  | .encode | .encodeM0 | .encodeM1 | .encodeM2 | .encodeM3 | .encodeM4 | .encodeM5 | .encodeM6 | .encodeM7
  | .encodeM8 | .encodeM9 | .encodeM10 => checksEncode
  | .decode | .decodeFast | .decodeFastFb | .hdrParse | .zencDefault | .zencFiltered | .zencHuffman
  | .zdec => checksWindows
  | .rlePack | .palEnc => checksPixels
  | .rleUnpack | .palDec => checksStream
  | .predEncDelta | .predEncAvg | .predEncPaeth | .filtEncNone | .filtEncSub | .filtEncUp | .filtEncAverage
  | .filtEncPaeth | .filtEncAdaptive => checksImage
  | .predDecDelta => checksResiduals .delta
  | .predDecAvg => checksResiduals .avg
  | .predDecPaeth => checksResiduals .paeth
  | .filtDec => checksFilterStream
  | .method0Identity _ | .method1RleZ _ | .method2Z _ | .method3ZBestStrategy _ | .method4PredZ _
  | .method5PaletteZ _ | .method6AdaptiveFilterZ _ | .method7UniformFilterZ _ | .method8RleFilterZ _
  | .method9AdaptiveFilterZ2 _ | .method10UniformFilterZ2 _
  | .filterTag0None | .filterTag1Sub | .filterTag2Up | .filterTag3Average | .filterTag4Paeth
  | .predTag0Delta | .predTag1Avg | .predTag2Paeth => fun _ _ => .ok ()

end Sys2Proof.Machine
end

