-- ==== Sys2Proof/Machine/Ops.lean ====
section
/-! DEFINITION. The shared operations: acceptance (40_commands R160), completion with success, with an error (the
engine's "taking an exception", R161, 60_exceptions R455, R459) and with a draw (20_memory R99), the acknowledgement
(its "return", R460), reset (70_reset_and_hazards R490), and the frame every command's meaning shares. -/

namespace Sys2Proof.Machine

/-! ## What a command's rule answers -/

/-- The values of a successful command (R161): destination bytes, result registers, STATUS result fields. -/
structure Result where
  data : Bytes
  w : Nat
  h : Nat
  ch : Nat
  flags : ResultFlags
  deriving DecidableEq, Repr

/-- The outcome of a command's rule (R161). `mayWrite` says whether a failed command may have written its destination
window (20_memory R84): it has not, when the failed check is one the spec says writes no memory (log 14). -/
inductive Verdict where
  | success (r : Result)
  | failure (k : ErrKind) (mayWrite : Bool)
  deriving DecidableEq, Repr

/-- What the complete step writes: CAND_SIZE, if the command reached its candidate phase (10_state R52), and the
outcome. -/
structure Report where
  cand : Option (Vector Word 11)
  verdict : Verdict
  deriving DecidableEq, Repr

/-- `finish(D)` (R179): BUFFER_ERROR if the result is longer than the destination window (20_memory R88). -/
def finish (l : Latch) (r : Result) : Verdict :=
  if l.dstCap.toNat < r.data.length then .failure .bufferError true else .success r

/-- The result of a stage command: RES_W, RES_H, RES_CH and the STATUS result fields 0 (40_commands section 4). -/
def stageResult (D : Bytes) : Result := { data := D, w := 0, h := 0, ch := 0, flags := ResultFlags.none }

/-- The report of a stage command whose rule gives `r`: CAND_SIZE is unchanged. -/
def stageReport (l : Latch) (r : Res Bytes) : Report :=
  { cand := none
    verdict :=
      match r with
      | .ok D => finish l (stageResult D)
      | .error k => .failure k true }

/-! ## Completion (R161) -/

/-- The source window's bytes (20_memory R82). Read at completion: they stand as at acceptance unless the host wrote
the window, and then the result is a draw (R99, R100, log 19). -/
def source (l : Latch) (s : State) : Bytes := s.mem.read l.srcAddr.toNat l.srcLen.toNat

/-- A successful completion (R161): the result bytes are written and nothing else of memory (20_memory R83). -/
def succeed (l : Latch) (r : Result) (s : State) : State :=
  { s with
    phase := .idle
    status := s.status.succeeded r.flags
    dstLen := BitVec.ofNat 32 r.data.length
    resW := BitVec.ofNat 32 r.w
    resH := BitVec.ofNat 32 r.h
    resCh := BitVec.ofNat 32 r.ch
    work := Work.empty
    mem := s.mem.write l.dstAddr.toNat r.data }

/-- An error completion that writes no memory (R161, R455): the engine's exception entry. -/
def failKeeping (k : ErrKind) (s : State) : State :=
  { s with
    phase := .idle
    status := s.status.failed k
    dstLen := 0
    resW := 0
    resH := 0
    resCh := 0
    work := Work.empty }

/-- The destination window holds any value (20_memory R84, R99): one free byte for each of its addresses. -/
def drawWindow (l : Latch) (s : State) : State :=
  { s with
    mem := Memory.drawOver (holdsMemory s.cfg) s.draws l.dstCap.toNat l.dstAddr.toNat s.mem
    draws := s.draws + l.dstCap.toNat }

/-- An error completion after the operand checks: the destination window holds any value (R84, R455). -/
def failDrawing (l : Latch) (k : ErrKind) (s : State) : State := drawWindow l (failKeeping k s)

/-- How many free words the registers of a draw take. -/
def drawnRegisters : Nat := 16

/-- The completion of a command one of whose windows the host wrote while it ran: everything R99 and R495 name is a
free value; DONE is set, DROP and every other register keep their values. -/
def completeDrawn (l : Latch) (s : State) : State :=
  drawWindow l
    { s with
      phase := .idle
      status := s.status.drawn (Config.freeWord s.draws)
      dstLen := Config.freeWord (s.draws + 1)
      resW := Config.freeWord (s.draws + 2)
      resH := Config.freeWord (s.draws + 3)
      resCh := Config.freeWord (s.draws + 4)
      candSize := Vector.ofFn fun i : Fin 11 => Config.freeWord (s.draws + 5 + i.val)
      work := Work.empty
      draws := s.draws + drawnRegisters }

/-- CAND_SIZE as a report fills it (10_state R52). -/
def fillCand (cand : Option (Vector Word 11)) (s : State) : State :=
  match cand with
  | none => s
  | some v => { s with candSize := v }

/-- The complete step on a report (R161). -/
def complete (l : Latch) (rep : Report) (s : State) : State :=
  match rep.verdict with
  | .success r => succeed l r (fillCand rep.cand s)
  | .failure k true => failDrawing l k (fillCand rep.cand s)
  | .failure k false => failKeeping k (fillCand rep.cand s)

/-- The completion of a command whose word or operands are rejected (R162, R163): no memory is written, unless the
host's writes made the result a draw. -/
def rejectCommand (l : Latch) (tainted : Bool) (k : ErrKind) (s : State) : State :=
  if tainted then completeDrawn l s else failKeeping k s

/-- The completion of a command that passed its checks (R161, R99). -/
def finishCommand (l : Latch) (tainted : Bool) (rep : Report) (s : State) : State :=
  if tainted then completeDrawn l s else complete l rep s

/-- The complete step of a command: its operand checks (R163), the refusal of a device window (20_memory R93), its
rule on L and SRC, its completion. With the phase IDLE the step is not enabled and nothing changes (R161, log 20). -/
def runCommand (checks : Params → Latch → Res Unit) (rule : Params → Latch → Bytes → Report) (s : State) :
    Host.Outcome State Fault Refusal :=
  match s.phase with
  | .idle => .next s
  | .busy l tainted =>
    match checks s.cfg l with
    | .error k => .next (rejectCommand l tainted k s)
    | .ok () =>
      if l.overDevice s.cfg then .refused .deviceWindow
      else .next (finishCommand l tainted (rule s.cfg l (source l s)) s)

/-- A change of internal storage while a command runs; nothing else changes, and nothing while IDLE (10_state R59). -/
def runStage (f : Params → Work → Work) (s : State) : Host.Outcome State Fault Refusal :=
  match s.phase with
  | .idle => .next s
  | .busy _ _ => .next { s with work := f s.cfg s.work }

/-! ## Acceptance (R160) -/

/-- The record latched at acceptance (10_state R57). -/
def latch (w : Word) (s : State) : Latch :=
  { word := w
    outRgba := s.outRgba
    srcAddr := s.srcAddr
    srcLen := s.srcLen
    dstAddr := s.dstAddr
    dstCap := s.dstCap
    w := s.imgW
    h := s.imgH
    ch := s.imgCh }

/-- A legal ENCODE or ENCODE_M word (R160, 30_encoding R115). -/
def isEncodeWord (w : Word) : Bool := (cmdOp w == 0x01 || cmdOp w == 0x02) && (decodeCmd w).instr?.isSome

/-- Internal storage of a container's decode: its FLAGS byte and payload, and the header's geometry (log 5). -/
def containerWork (S : Bytes) : Work :=
  match parseHeader S with
  | .error _ => Work.empty
  | .ok hdr => { Work.empty with inp := S.drop 6, w := hdr.w, h := hdr.h, c := hdr.ch }

/-- Internal storage of FILT_DEC: the filter stream, under a zero row (42_filter_engine R250, log 5). -/
def filterWork (l : Latch) (S : Bytes) : Work :=
  { Work.empty with
    inp := S, above := zeros (l.w.toNat * l.ch.toNat), w := l.w.toNat, h := l.h.toNat, c := l.ch.toNat }

/-- What internal storage holds when the instruction `i` starts: the stream whose codes its evaluator dispatches, if
it is a decode or FILT_DEC, its operand checks pass and its windows are ordinary memory; nothing else (log 5). -/
def streamWork (i : Instr) (l : Latch) (s : State) : Work :=
  if (checksOf i s.cfg l).isOk && !l.overDevice s.cfg then
    if i = .decode ∨ i = .decodeFast ∨ i = .decodeFastFb then containerWork (source l s)
    else if i = .filtDec then filterWork l (source l s)
    else Work.empty
  else Work.empty

/-- What internal storage holds when a command starts. For a word that is no instruction no memory is read (R162), and
it holds nothing. -/
def startWork (l : Latch) (s : State) : Work :=
  match (decodeCmd l.word).instr? with
  | some i => streamWork i l s
  | none => Work.empty

/-- The accept step (R160). -/
def accept (w : Word) (s : State) : State :=
  { s with
    phase := .busy (latch w s) false
    cmd := w
    status := s.status.accepted
    candSize := if isEncodeWord w then candNone else s.candSize
    work := startWork (latch w s) s }

/-- A host write to CMD: accepted while IDLE, dropped while BUSY (10_state R37). -/
def submit (w : Word) (s : State) : State :=
  match s.phase with
  | .idle => accept w s
  | .busy _ _ => { s with status := s.status.dropped }

/-! ## Reset and acknowledgement -/

/-- The destination window of a command abandoned by reset holds any value, and its source window is unchanged
(70_reset_and_hazards R491): an address of both, which a command not yet checked can have, keeps its byte. A reset is not
refused where a window lies over a device (20_memory R93 does not say at which step a model refuses): the device's cells in
the destination window take free values like memory's (DESIGN CHOICE, log 34). -/
def drawAbandoned (l : Latch) (s : State) : State :=
  { s with
    mem := Memory.drawOver (fun a => holdsMemory s.cfg a && !l.inSrc a) s.draws l.dstCap.toNat l.dstAddr.toNat s.mem
    draws := s.draws + l.dstCap.toNat }

/-- RESET (70_reset_and_hazards R490, R491): the registers take the values of 10_state R61, and memory changes only in
the destination window of an abandoned command. Parameters, inputs and the host's own data are not the engine's. -/
def doReset (s : State) : State :=
  let s' := { State.reset with
    cfg := s.cfg, mem := s.mem, inputs := s.inputs, rdata := s.rdata, draws := s.draws }
  match s.phase with
  | .idle => s'
  | .busy l _ => drawAbandoned l s'

end Sys2Proof.Machine
end

