-- ==== Sys2Proof/Machine/Registers.lean ====
section
/-! DEFINITION. The register block (10_state R32 to R55): names, offsets, reads and writes. -/

namespace Sys2Proof.Machine

/-- The registers of R32. -/
inductive Reg where
  | id
  | cap
  | ctrl
  | cmd
  | status
  | srcAddr
  | srcLen
  | dstAddr
  | dstCap
  | dstLen
  | imgW
  | imgH
  | imgCh
  | resW
  | resH
  | resCh
  | candSize (m : Fin 11)
  | reserved
  deriving DecidableEq, Repr

/-- The register at an offset that is a multiple of 4 (R32). -/
def regAt (offset : Nat) : Reg :=
  if offset = 0x00 then .id
  else if offset = 0x04 then .cap
  else if offset = 0x08 then .ctrl
  else if offset = 0x0C then .cmd
  else if offset = 0x10 then .status
  else if offset = 0x14 then .srcAddr
  else if offset = 0x18 then .srcLen
  else if offset = 0x1C then .dstAddr
  else if offset = 0x20 then .dstCap
  else if offset = 0x24 then .dstLen
  else if offset = 0x28 then .imgW
  else if offset = 0x2C then .imgH
  else if offset = 0x30 then .imgCh
  else if offset = 0x34 then .resW
  else if offset = 0x38 then .resH
  else if offset = 0x3C then .resCh
  else if h : 0x40 ≤ offset ∧ offset ≤ 0x68 then .candSize ⟨(offset - 0x40) / 4, by omega⟩
  else .reserved

/-- The offset of a register (R32); the first reserved one for `reserved`. -/
def Reg.offset : Reg → Nat
  | .id => 0x00
  | .cap => 0x04
  | .ctrl => 0x08
  | .cmd => 0x0C
  | .status => 0x10
  | .srcAddr => 0x14
  | .srcLen => 0x18
  | .dstAddr => 0x1C
  | .dstCap => 0x20
  | .dstLen => 0x24
  | .imgW => 0x28
  | .imgH => 0x2C
  | .imgCh => 0x30
  | .resW => 0x34
  | .resH => 0x38
  | .resCh => 0x3C
  | .candSize m => 0x40 + 4 * m.val
  | .reserved => 0x6C

/-- ID (R33). -/
def idWord : Word := 0x5058010A

/-- CAP (R34): FAST in bits 26:16, METHODS in bits 10:0. -/
def capWord (P : Params) : Word := 0#5 ++ P.fastSubset ++ 0#5 ++ 0x7FF#11

/-- CTRL as a read returns it: bit 31 and the reserved bits read 0 (R35). -/
def ctrlWord (outRgba irqEn : Bool) : Word := 0#30 ++ BitVec.ofBool irqEn ++ BitVec.ofBool outRgba

/-- A register read; it has no side effect (R54). -/
def readReg (r : Reg) (s : State) : Word :=
  match r with
  | .id => idWord
  | .cap => capWord s.cfg
  | .ctrl => ctrlWord s.outRgba s.irqEn
  | .cmd => s.cmd
  | .status => s.status.toWord s.phase.isBusy
  | .srcAddr => s.srcAddr
  | .srcLen => s.srcLen
  | .dstAddr => s.dstAddr
  | .dstCap => s.dstCap
  | .dstLen => s.dstLen
  | .imgW => s.imgW
  | .imgH => s.imgH
  | .imgCh => s.imgCh
  | .resW => s.resW
  | .resH => s.resH
  | .resCh => s.resCh
  | .candSize m => s.candSize[m.val]
  | .reserved => 0

/-- A host write to CTRL: bit 31 is the soft reset, which discards the other bits (R35, R36). -/
def writeCtrl (v : Word) (s : State) : State :=
  if v.getLsbD 31 then doReset s else { s with outRgba := v.getLsbD 0, irqEn := v.getLsbD 1 }

/-- A host write to STATUS (R39); a write of 0x0000000E is the acknowledgement (60_exceptions R460). -/
def writeStatus (v : Word) (s : State) : State := { s with status := s.status.writeOneToClear v }

/-- A host register write, in either phase (R37, R39, R55); read-only and reserved registers ignore it (R53, R54). -/
def writeReg (r : Reg) (v : Word) (s : State) : State :=
  match r with
  | .id => s
  | .cap => s
  | .ctrl => writeCtrl v s
  | .cmd => submit v s
  | .status => writeStatus v s
  | .srcAddr => { s with srcAddr := v }
  | .srcLen => { s with srcLen := v }
  | .dstAddr => { s with dstAddr := v }
  | .dstCap => { s with dstCap := v }
  | .dstLen => s
  | .imgW => { s with imgW := v }
  | .imgH => { s with imgH := v }
  | .imgCh => { s with imgCh := v }
  | .resW => s
  | .resH => s
  | .resCh => s
  | .candSize _ => s
  | .reserved => s

/-- `ACK` (30_encoding R140, 60_exceptions R460): the engine's return from an exception. -/
def acknowledge (s : State) : State := writeStatus 0x0000000E s

end Sys2Proof.Machine
end

