-- ==== Sys2Proof/Machine/Bus.lean ====
section
/-! DEFINITION. A host access on the bus: to the register block (10_state R54) or to memory (20_memory R80, R99). -/

namespace Sys2Proof.Machine

/-- Where a bus access of n bytes goes. -/
inductive Target where
  | register (r : Reg)
  | memory
  | noMemory
  | device
  | badRegister
  deriving DecidableEq, Repr

/-- The target of an access of n bytes at address a. An access that touches the register block is defined only as one
aligned 32-bit access inside it (10_state R54). -/
def targetOf (P : Params) (a n : Nat) : Target :=
  if allFrom (fun x => !P.inBlock x) n a then
    if allFrom (fun x => decide (x < addressSpace) && P.memOk x) n a then
      if allFrom (fun x => !P.isDevice x) n a then .memory else .device
    else .noMemory
  else if n = 4 ∧ a % 4 = 0 then .register (regAt (a - P.engineBase))
  else .badRegister

/-- Whether a write of n bytes at address a writes a window of the running command (20_memory R99). -/
def hitsWindow (l : Latch) (a n : Nat) : Bool := !allFrom (fun x => !(l.inSrc x || l.inDst x)) n a

/-- The phase after a host write of n bytes of memory at a: a write into a window of the running command makes its
result a draw (R99, log 9). -/
def Phase.afterWrite (p : Phase) (a n : Nat) : Phase :=
  match p with
  | .idle => .idle
  | .busy l tainted => .busy l (tainted || hitsWindow l a n)

/-- A host write of memory. -/
def storeBytes (a : Nat) (data : Bytes) (s : State) : State :=
  { s with mem := s.mem.write a data, phase := s.phase.afterWrite a data.length }

/-- The byte a host read returns: any value in the destination window of a running command (R99, log 26). -/
def hostByte (p : Phase) (m : Memory) (d a : Nat) : Byte :=
  match p with
  | .idle => m.get a
  | .busy l _ => if l.inDst a then freeByte d else m.get a

/-- The bytes a host read of n bytes returns; the k-th may be the free value d + k. -/
def hostBytes (p : Phase) (m : Memory) : Nat → Nat → Nat → Bytes
  | 0, _, _ => []
  | n + 1, d, a => hostByte p m d a :: hostBytes p m n (d + 1) (a + 1)

/-- A host read of memory: it changes no memory and no register. -/
def loadBytes (a n : Nat) (s : State) : State :=
  { s with rdata := hostBytes s.phase s.mem n s.draws a, draws := s.draws + n }

/-- A host write access of `data` at `addr`. A write of a register is no write of a window, even of a running command's
window that covers the register block and so will be rejected (20_memory R86, R99; the model's choice, log 32). -/
def busWrite (addr : Word) (data : Bytes) (s : State) : Host.Outcome State Fault Refusal :=
  match targetOf s.cfg addr.toNat data.length with
  | .register r => .next (writeReg r (wordOfBytes data) s)
  | .memory => .next (storeBytes addr.toNat data s)
  | .noMemory => .fault .noMemory
  | .device => .refused .deviceAccess
  | .badRegister => .refused .registerAccess

/-- A host read access of n bytes at `addr`. A read of a register returns the register, even where a running command's
destination window covers the register block (20_memory R86, R99; the model's choice, log 32). -/
def busRead (addr : Word) (n : Nat) (s : State) : Host.Outcome State Fault Refusal :=
  match targetOf s.cfg addr.toNat n with
  | .register r => .next { s with rdata := wordBytes (readReg r s) }
  | .memory => .next (loadBytes addr.toNat n s)
  | .noMemory => .fault .noMemory
  | .device => .refused .deviceAccess
  | .badRegister => .refused .registerAccess

/-- One turn of `WAIT` (30_encoding R139): a read of STATUS, repeated until DONE reads 1. Between two reads the engine
gets a turn, so that a running command completes (70_reset_and_hazards R505, log 22). -/
def waitTurn (s : State) : State :=
  let s' := { s with rdata := wordBytes (readReg .status s) }
  if s.status.done then s' else { s' with inputs := .engine :: .wait :: s.inputs }

end Sys2Proof.Machine
end

