-- ==== Sys2Proof/Machine/Codes.lean ====
section
/-! DEFINITION. The byte codes: what the engine does, in internal storage, with the code that stands at the head of
the stream being decoded. The FLAGS byte of a container dispatches to its method's inverse pipeline (44_method_catalog
R340 to R351, 46_decoder R413, R414); a row tag reconstructs the filter row after it (42_filter_engine R249, R250); a
method-4 tag reconstructs the pixels after it (44_method_catalog R345). -/

namespace Sys2Proof.Machine

/-! ## Shared operations -/

/-- The channel count a FLAGS byte implies (30_encoding R121). -/
def flagsChannels (fl : Flags) : Nat := if fl.alpha then 4 else 3

/-- The inverse pipeline run on the payload; an image of no pixels has its payload left unexamined (46_decoder
R414). -/
def dispatchMethod (fl : Flags) (dec : Params → Bytes → Nat → Nat → Res Bytes) (P : Params) (wk : Work) : Work :=
  if wk.w * wk.h = 0 then { wk with c := flagsChannels fl, out := [] }
  else
    match dec P wk.inp wk.w (flagsChannels fl) with
    | .ok X => { wk with c := flagsChannels fl, out := X }
    | .error k => { wk with c := flagsChannels fl, fail := some k }

/-- One row reconstructed (42_filter_engine R250): it becomes the row above of the next. -/
def filterStage (t : Filter) (_P : Params) (wk : Work) : Work :=
  let n := wk.w * wk.c
  let r := unfilterRow t (wk.inp.take n) wk.above wk.c
  { wk with inp := wk.inp.drop n, above := r, out := wk.out ++ r }

/-- The rest of a method-4 payload reconstructed (44_method_catalog R345); never over an image of no pixels
(41_transform_primitives R210, 46_decoder R414). -/
def predStage (v : Variant) (P : Params) (wk : Work) : Work :=
  if wk.w * wk.h = 0 then { wk with out := [] }
  else
    match dec4Body P v wk.inp wk.w wk.c with
    | .ok X => { wk with out := X }
    | .error k => { wk with fail := some k }

/-! ## Meanings: FLAGS rows -/

/-- METHOD 0 (R341). -/
def execMethod0Identity (fl : Flags) (s : State) : Host.Outcome State Fault Refusal :=
  runStage (dispatchMethod fl (fun _ Y _ _ => dec0 Y)) s

/-- METHOD 1 (R342). -/
def execMethod1RleZ (fl : Flags) (s : State) : Host.Outcome State Fault Refusal :=
  runStage (dispatchMethod fl (fun P Y _ C => dec1 P Y C)) s

/-- METHOD 2 (R343). -/
def execMethod2Z (fl : Flags) (s : State) : Host.Outcome State Fault Refusal :=
  runStage (dispatchMethod fl (fun P Y _ _ => dec2 P Y)) s

/-- METHOD 3 (R344). -/
def execMethod3ZBestStrategy (fl : Flags) (s : State) : Host.Outcome State Fault Refusal :=
  runStage (dispatchMethod fl (fun P Y _ _ => dec3 P Y)) s

/-- METHOD 4 (R345). -/
def execMethod4PredZ (fl : Flags) (s : State) : Host.Outcome State Fault Refusal :=
  runStage (dispatchMethod fl dec4) s

/-- METHOD 5 (R346). -/
def execMethod5PaletteZ (fl : Flags) (s : State) : Host.Outcome State Fault Refusal :=
  runStage (dispatchMethod fl (fun P Y _ C => dec5 P Y C)) s

/-- METHOD 6 (R347). -/
def execMethod6AdaptiveFilterZ (fl : Flags) (s : State) : Host.Outcome State Fault Refusal :=
  runStage (dispatchMethod fl dec6) s

/-- METHOD 7 (R348). -/
def execMethod7UniformFilterZ (fl : Flags) (s : State) : Host.Outcome State Fault Refusal :=
  runStage (dispatchMethod fl dec7) s

/-- METHOD 8 (R349). -/
def execMethod8RleFilterZ (fl : Flags) (s : State) : Host.Outcome State Fault Refusal :=
  runStage (dispatchMethod fl (fun P Y _ C => dec8 P Y C)) s

/-- METHOD 9 (R350). -/
def execMethod9AdaptiveFilterZ2 (fl : Flags) (s : State) : Host.Outcome State Fault Refusal :=
  runStage (dispatchMethod fl dec9) s

/-- METHOD 10 (R351). -/
def execMethod10UniformFilterZ2 (fl : Flags) (s : State) : Host.Outcome State Fault Refusal :=
  runStage (dispatchMethod fl dec10) s

/-! ## Meanings: ROW_TAG rows -/

/-- Row tag 0 (30_encoding R129, 42_filter_engine R241 to R243). -/
def execFilterTag0None (s : State) : Host.Outcome State Fault Refusal := runStage (filterStage .none) s

/-- Row tag 1 (30_encoding R129, 42_filter_engine R241 to R243). -/
def execFilterTag1Sub (s : State) : Host.Outcome State Fault Refusal := runStage (filterStage .sub) s

/-- Row tag 2 (30_encoding R129, 42_filter_engine R241 to R243). -/
def execFilterTag2Up (s : State) : Host.Outcome State Fault Refusal := runStage (filterStage .up) s

/-- Row tag 3 (30_encoding R129, 42_filter_engine R241 to R243). -/
def execFilterTag3Average (s : State) : Host.Outcome State Fault Refusal := runStage (filterStage .average) s

/-- Row tag 4 (30_encoding R129, 42_filter_engine R241 to R243). -/
def execFilterTag4Paeth (s : State) : Host.Outcome State Fault Refusal := runStage (filterStage .paeth) s

/-! ## Meanings: M4_TAG rows -/

/-- Method-4 tag 0 (30_encoding R125, R133). -/
def execPredTag0Delta (s : State) : Host.Outcome State Fault Refusal := runStage (predStage .delta) s

/-- Method-4 tag 1 (30_encoding R125, R133). -/
def execPredTag1Avg (s : State) : Host.Outcome State Fault Refusal := runStage (predStage .avg) s

/-- Method-4 tag 2 (30_encoding R125, R133). -/
def execPredTag2Paeth (s : State) : Host.Outcome State Fault Refusal := runStage (predStage .paeth) s

end Sys2Proof.Machine
end

