-- ==== Sys2Proof/Machine/Selector.lean ====
section
/-! DEFINITION. The encoder/selector and the container marshaller (45_encoder_selector R380 to R391). -/

namespace Sys2Proof.Machine

/-- The raw bytes of an image, its stored channel count and its alpha flag (R380). -/
structure Raw where
  bytes : Bytes
  ch : Nat
  alpha : Bool
  deriving DecidableEq, Repr

/-- Whether some pixel of a 4-channel buffer has alpha other than 255 (R380). -/
def hasAlpha (B : Bytes) : Bool := (px B 4).any fun p => p.getD 3 255 != 255

/-- `strip_alpha(B)`: the R, G, B bytes of each 4-channel pixel (R380). -/
def stripAlpha (B : Bytes) : Bytes := (px B 4).flatMap fun p => p.take 3

/-- `RAW(B, IN_CH)` (R380). -/
def raw (B : Bytes) (inCh : Nat) : Raw :=
  if inCh = 4 ∧ hasAlpha B = true then { bytes := B, ch := 4, alpha := true }
  else if inCh = 4 then { bytes := stripAlpha B, ch := 3, alpha := false }
  else { bytes := B, ch := 3, alpha := false }

/-- `CONTAINER(W, H, m, alpha, P)` (R387, 30_encoding R116). -/
def container (W H m : Nat) (alpha : Bool) (Y : Bytes) : Bytes :=
  [0x50, 0x58] ++ u16le W ++ u16le H ++ [byteOf (m + 16 * alpha.toNat)] ++ Y

/-- The method ids, in order (R382). -/
def methodIds : List Nat := [0, 1, 2, 3, 4, 5, 6, 7, 8, 9, 10]

/-- The eleven candidates, in order of their ids (R382, R385). -/
def candidates (P : Params) (R : Bytes) (W H C : Nat) : List (Nat × Res Bytes) :=
  methodIds.map fun m => (m, encMethod P m R W H C)

/-- `sat32(n)` (R385). -/
def sat32 (n : Nat) : Word := if n ≤ 0xFFFFFFFE then BitVec.ofNat 32 n else 0xFFFFFFFE

/-- A CAND_SIZE entry: the payload length, or 0xFFFFFFFF for a candidate that failed (R383, R385). -/
def candEntry : Res Bytes → Word
  | .ok Y => sat32 Y.length
  | .error _ => 0xFFFFFFFF

/-- What SELECT reports of its eleven candidates and its choice (R385). -/
structure Selection where
  sizes : List Word
  palExcl : Bool
  /-- the chosen method and its payload; none if every candidate failed (R388) -/
  choice : Option (Nat × Bytes)
  deriving DecidableEq, Repr

/-- `SELECT` on the raw bytes: every candidate evaluated, the least payload chosen, ties to the lowest id (R385). -/
def select (P : Params) (R : Bytes) (W H C : Nat) : Selection :=
  let cs := candidates P R W H C
  { sizes := cs.map fun c => candEntry c.2
    palExcl := cs.any fun c => c.1 == 5 && decide (c.2 = .error .paletteOverflow)
    choice := argmin (fun c => c.2.length) (successes cs) }

end Sys2Proof.Machine
end

