-- ==== Sys2Proof/Machine/ImageCommands.lean ====
section
/-! DEFINITION. The image commands (40_commands R164 to R168): ENCODE, ENCODE_M 0 to 10, DECODE, DECODE_FAST,
HDR_PARSE. One rule each, over the latched record and the source bytes; one meaning for each row. -/

namespace Sys2Proof.Machine

/-! ## Rules -/

/-- The eleven CAND_SIZE entries of a selection (10_state R52). -/
def candVector (sizes : List Word) : Vector Word 11 := Vector.ofFn fun i : Fin 11 => sizes.getD i.val 0xFFFFFFFF

/-- The CAND_SIZE entries ENCODE_M leaves: entry m as given, the rest 0xFFFFFFFF (10_state R52, R165, log 25). -/
def candOnly (m : Nat) (entry : Word) : Vector Word 11 :=
  Vector.ofFn fun i : Fin 11 => if i.val = m then entry else 0xFFFFFFFF

/-- The raw bytes of the latched image: source bytes past W*H*IN_CH are ignored (R164, 45_encoder_selector R380). -/
def latchedRaw (l : Latch) (SRC : Bytes) : Raw := raw (SRC.take l.imageLen) l.ch.toNat

/-- The rule of ENCODE (R164). -/
def ruleEncode (P : Params) (l : Latch) (SRC : Bytes) : Report :=
  let x := latchedRaw l SRC
  let sel := select P x.bytes l.w.toNat l.h.toNat x.ch
  { cand := some (candVector sel.sizes)
    verdict :=
      match sel.choice with
      | none => .failure .allCandidatesFailed true
      | some (m, Y) =>
        finish l
          { data := container l.w.toNat l.h.toNat m x.alpha Y
            w := l.w.toNat
            h := l.h.toNat
            ch := x.ch
            flags := { ResultFlags.none with method := m, alpha := x.alpha, palExcl := sel.palExcl } } }

/-- The rule of ENCODE_M m (R165). -/
def ruleEncodeM (m : Nat) (P : Params) (l : Latch) (SRC : Bytes) : Report :=
  let x := latchedRaw l SRC
  let r := encMethod P m x.bytes l.w.toNat l.h.toNat x.ch
  { cand := some (candOnly m (candEntry r))
    verdict :=
      match r with
      | .error k => .failure k true
      | .ok Y =>
        finish l
          { data := container l.w.toNat l.h.toNat m x.alpha Y
            w := l.w.toNat
            h := l.h.toNat
            ch := x.ch
            flags := { ResultFlags.none with method := m, alpha := x.alpha } } }

/-- The verdict of a decode (R166): the geometry comes from the header. -/
def decodeVerdict (l : Latch) (fellback : Bool) (r : Except DecodeFailure DecodedImage) : Verdict :=
  match r with
  | .error e => .failure e.kind e.mayWrite
  | .ok d =>
    finish l
      { data := d.data
        w := d.hdr.w
        h := d.hdr.h
        ch := outChannels l.outRgba d.hdr.alpha
        flags :=
          { ResultFlags.none with
            method := d.hdr.method, alpha := d.hdr.alpha, padded := d.padded, fellback := fellback } }

/-- The rule of DECODE (R166). -/
def ruleDecode (P : Params) (l : Latch) (SRC : Bytes) : Report :=
  { cand := none, verdict := decodeVerdict l false (decodeFull P SRC l.outRgba l.dstCap.toNat) }

/-- The rule of DECODE_FAST (R167): the fast path's failure is the command's. -/
def ruleDecodeFast (P : Params) (l : Latch) (SRC : Bytes) : Report :=
  { cand := none, verdict := decodeVerdict l false (decodeFastPath P SRC l.outRgba l.dstCap.toNat) }

/-- The rule of DECODE_FAST fb (R167, 46_decoder R421): a fast-path failure is followed by the full decoder. -/
def ruleDecodeFastFb (P : Params) (l : Latch) (SRC : Bytes) : Report :=
  { cand := none
    verdict :=
      match decodeFastPath P SRC l.outRgba l.dstCap.toNat with
      | .ok d => decodeVerdict l false (.ok d)
      | .error _ => decodeVerdict l true (decodeFull P SRC l.outRgba l.dstCap.toNat) }

/-- The rule of HDR_PARSE (R168). -/
def ruleHdrParse (_P : Params) (l : Latch) (SRC : Bytes) : Report :=
  { cand := none
    verdict :=
      match parseHeader SRC with
      | .error k => .failure k true
      | .ok hdr =>
        finish l
          { data := []
            w := hdr.w
            h := hdr.h
            ch := hdr.ch
            flags := { ResultFlags.none with method := hdr.method, alpha := hdr.alpha } } }

/-! ## Meanings -/

/-- ENCODE (R164). -/
def execEncode (s : State) : Host.Outcome State Fault Refusal := runCommand checksEncode ruleEncode s

/-- ENCODE_M 0 (R165, 44_method_catalog R341). -/
def execEncodeM0 (s : State) : Host.Outcome State Fault Refusal := runCommand checksEncode (ruleEncodeM 0) s

/-- ENCODE_M 1 (R165, 44_method_catalog R342). -/
def execEncodeM1 (s : State) : Host.Outcome State Fault Refusal := runCommand checksEncode (ruleEncodeM 1) s

/-- ENCODE_M 2 (R165, 44_method_catalog R343). -/
def execEncodeM2 (s : State) : Host.Outcome State Fault Refusal := runCommand checksEncode (ruleEncodeM 2) s

/-- ENCODE_M 3 (R165, 44_method_catalog R344). -/
def execEncodeM3 (s : State) : Host.Outcome State Fault Refusal := runCommand checksEncode (ruleEncodeM 3) s

/-- ENCODE_M 4 (R165, 44_method_catalog R345). -/
def execEncodeM4 (s : State) : Host.Outcome State Fault Refusal := runCommand checksEncode (ruleEncodeM 4) s

/-- ENCODE_M 5 (R165, 44_method_catalog R346). -/
def execEncodeM5 (s : State) : Host.Outcome State Fault Refusal := runCommand checksEncode (ruleEncodeM 5) s

/-- ENCODE_M 6 (R165, 44_method_catalog R347). -/
def execEncodeM6 (s : State) : Host.Outcome State Fault Refusal := runCommand checksEncode (ruleEncodeM 6) s

/-- ENCODE_M 7 (R165, 44_method_catalog R348). -/
def execEncodeM7 (s : State) : Host.Outcome State Fault Refusal := runCommand checksEncode (ruleEncodeM 7) s

/-- ENCODE_M 8 (R165, 44_method_catalog R349). -/
def execEncodeM8 (s : State) : Host.Outcome State Fault Refusal := runCommand checksEncode (ruleEncodeM 8) s

/-- ENCODE_M 9 (R165, 44_method_catalog R350). -/
def execEncodeM9 (s : State) : Host.Outcome State Fault Refusal := runCommand checksEncode (ruleEncodeM 9) s

/-- ENCODE_M 10 (R165, 44_method_catalog R351). -/
def execEncodeM10 (s : State) : Host.Outcome State Fault Refusal := runCommand checksEncode (ruleEncodeM 10) s

/-- DECODE (R166). -/
def execDecode (s : State) : Host.Outcome State Fault Refusal := runCommand checksWindows ruleDecode s

/-- DECODE_FAST (R167, F = 0). -/
def execDecodeFast (s : State) : Host.Outcome State Fault Refusal := runCommand checksWindows ruleDecodeFast s

/-- DECODE_FAST fb (R167, F = 1). -/
def execDecodeFastFb (s : State) : Host.Outcome State Fault Refusal := runCommand checksWindows ruleDecodeFastFb s

/-- HDR_PARSE (R168). -/
def execHdrParse (s : State) : Host.Outcome State Fault Refusal := runCommand checksWindows ruleHdrParse s

end Sys2Proof.Machine
end

