-- ==== Sys2Proof/Machine/StageCommands.lean ====
section
/-! DEFINITION. The stage commands (40_commands R169 to R178). One rule each, over the latched record and the source
bytes; one meaning for each row. -/

namespace Sys2Proof.Machine

/-! ## Rules

Under a finite SCRATCH_BYTES any of them can fail with RESOURCE_LIMIT (60_exceptions R451; `hold`, logs 12 and 13). -/

/-- RLE_PACK (R169). -/
def ruleRlePack (P : Params) (l : Latch) (SRC : Bytes) : Report :=
  stageReport l (hold P (.command .rle) SRC (.ok (rle SRC l.ch.toNat)))

/-- RLE_UNPACK (R170). -/
def ruleRleUnpack (P : Params) (l : Latch) (SRC : Bytes) : Report :=
  stageReport l (hold P (.command .rleInv) SRC (rleInv SRC l.ch.toNat))

/-- PRED_ENC v (R171). -/
def rulePredEnc (v : Variant) (P : Params) (l : Latch) (SRC : Bytes) : Report :=
  stageReport l (hold P (.command .pred) SRC (.ok (pred v SRC l.w.toNat l.ch.toNat)))

/-- PRED_DEC v (R172). -/
def rulePredDec (v : Variant) (P : Params) (l : Latch) (SRC : Bytes) : Report :=
  stageReport l (hold P (.command .predInv) SRC (.ok (predInv v SRC l.w.toNat l.ch.toNat)))

/-- FILT_ENC t, t at most 4 (R173). -/
def ruleFiltEnc (t : Filter) (P : Params) (l : Latch) (SRC : Bytes) : Report :=
  stageReport l (hold P (.command .filter) SRC (.ok (filterUniform t SRC l.w.toNat l.h.toNat l.ch.toNat)))

/-- FILT_ENC adaptive (R173). -/
def ruleFiltEncAdaptive (P : Params) (l : Latch) (SRC : Bytes) : Report :=
  stageReport l (hold P (.command .filter) SRC (.ok (filterAdaptive P.score SRC l.w.toNat l.h.toNat l.ch.toNat)))

/-- FILT_DEC (R174): the stream, not H, sets the number of rows. -/
def ruleFiltDec (P : Params) (l : Latch) (SRC : Bytes) : Report :=
  stageReport l (hold P (.command .filterInv) SRC (filterDecode SRC (l.w.toNat * l.ch.toNat) l.ch.toNat))

/-- ZENC s (R175). -/
def ruleZenc (st : Strategy) (P : Params) (l : Latch) (SRC : Bytes) : Report :=
  stageReport l (hold P (.command (.entropy st)) SRC (.ok (P.entropyEnc st SRC)))

/-- ZDEC (R176): a finite SCRATCH_BYTES bounds the output itself (43_entropy_stage R299). -/
def ruleZdec (P : Params) (l : Latch) (SRC : Bytes) : Report := stageReport l (zdecode P.scratch SRC)

/-- PAL_ENC (R177): PALETTE_OVERFLOW over 256 distinct pixels, whatever SCRATCH_BYTES is
(41_transform_primitives R211). -/
def rulePalEnc (P : Params) (l : Latch) (SRC : Bytes) : Report :=
  stageReport l (do
    let t ← pal SRC l.ch.toNat
    hold P (.command .pal) SRC (.ok t))

/-- PAL_DEC (R178). -/
def rulePalDec (P : Params) (l : Latch) (SRC : Bytes) : Report :=
  stageReport l (hold P (.command .palInv) SRC (palInv SRC l.ch.toNat))

/-! ## Meanings -/

/-- RLE_PACK (R169). -/
def execRlePack (s : State) : Host.Outcome State Fault Refusal := runCommand checksPixels ruleRlePack s

/-- RLE_UNPACK (R170). -/
def execRleUnpack (s : State) : Host.Outcome State Fault Refusal := runCommand checksStream ruleRleUnpack s

/-- PRED_ENC delta (R171). -/
def execPredEncDelta (s : State) : Host.Outcome State Fault Refusal := runCommand checksImage (rulePredEnc .delta) s

/-- PRED_ENC avg (R171). -/
def execPredEncAvg (s : State) : Host.Outcome State Fault Refusal := runCommand checksImage (rulePredEnc .avg) s

/-- PRED_ENC paeth (R171). -/
def execPredEncPaeth (s : State) : Host.Outcome State Fault Refusal := runCommand checksImage (rulePredEnc .paeth) s

/-- PRED_DEC delta (R172). -/
def execPredDecDelta (s : State) : Host.Outcome State Fault Refusal :=
  runCommand (checksResiduals .delta) (rulePredDec .delta) s

/-- PRED_DEC avg (R172). -/
def execPredDecAvg (s : State) : Host.Outcome State Fault Refusal :=
  runCommand (checksResiduals .avg) (rulePredDec .avg) s

/-- PRED_DEC paeth (R172). -/
def execPredDecPaeth (s : State) : Host.Outcome State Fault Refusal :=
  runCommand (checksResiduals .paeth) (rulePredDec .paeth) s

/-- FILT_ENC none (R173). -/
def execFiltEncNone (s : State) : Host.Outcome State Fault Refusal := runCommand checksImage (ruleFiltEnc .none) s

/-- FILT_ENC sub (R173). -/
def execFiltEncSub (s : State) : Host.Outcome State Fault Refusal := runCommand checksImage (ruleFiltEnc .sub) s

/-- FILT_ENC up (R173). -/
def execFiltEncUp (s : State) : Host.Outcome State Fault Refusal := runCommand checksImage (ruleFiltEnc .up) s

/-- FILT_ENC average (R173). -/
def execFiltEncAverage (s : State) : Host.Outcome State Fault Refusal :=
  runCommand checksImage (ruleFiltEnc .average) s

/-- FILT_ENC paeth (R173). -/
def execFiltEncPaeth (s : State) : Host.Outcome State Fault Refusal := runCommand checksImage (ruleFiltEnc .paeth) s

/-- FILT_ENC adaptive (R173). -/
def execFiltEncAdaptive (s : State) : Host.Outcome State Fault Refusal := runCommand checksImage ruleFiltEncAdaptive s

/-- FILT_DEC (R174). -/
def execFiltDec (s : State) : Host.Outcome State Fault Refusal := runCommand checksFilterStream ruleFiltDec s

/-- ZENC default (R175). -/
def execZencDefault (s : State) : Host.Outcome State Fault Refusal := runCommand checksWindows (ruleZenc .default) s

/-- ZENC filtered (R175). -/
def execZencFiltered (s : State) : Host.Outcome State Fault Refusal := runCommand checksWindows (ruleZenc .filtered) s

/-- ZENC huffman (R175). -/
def execZencHuffman (s : State) : Host.Outcome State Fault Refusal :=
  runCommand checksWindows (ruleZenc .huffmanOnly) s

/-- ZDEC (R176). -/
def execZdec (s : State) : Host.Outcome State Fault Refusal := runCommand checksWindows ruleZdec s

/-- PAL_ENC (R177). -/
def execPalEnc (s : State) : Host.Outcome State Fault Refusal := runCommand checksPixels rulePalEnc s

/-- PAL_DEC (R178). -/
def execPalDec (s : State) : Host.Outcome State Fault Refusal := runCommand checksStream rulePalDec s

end Sys2Proof.Machine
end

