-- ==== Sys2Proof/Machine/Dispatch.lean ====
section
/-! DEFINITION. The dispatch: one arm per instruction, each one call of that instruction's meaning. -/

namespace Sys2Proof.Machine

/-- The meaning of an instruction: the complete step of a command (40_commands R161), or what the engine does with a
byte code (logs 5, 20). -/
def exec (i : Instr) (s : State) : Host.Outcome State Fault Refusal :=
  match i with
  | .encode => Sys2Proof.Machine.execEncode s
  | .encodeM0 => Sys2Proof.Machine.execEncodeM0 s
  | .encodeM1 => Sys2Proof.Machine.execEncodeM1 s
  | .encodeM2 => Sys2Proof.Machine.execEncodeM2 s
  | .encodeM3 => Sys2Proof.Machine.execEncodeM3 s
  | .encodeM4 => Sys2Proof.Machine.execEncodeM4 s
  | .encodeM5 => Sys2Proof.Machine.execEncodeM5 s
  | .encodeM6 => Sys2Proof.Machine.execEncodeM6 s
  | .encodeM7 => Sys2Proof.Machine.execEncodeM7 s
  | .encodeM8 => Sys2Proof.Machine.execEncodeM8 s
  | .encodeM9 => Sys2Proof.Machine.execEncodeM9 s
  | .encodeM10 => Sys2Proof.Machine.execEncodeM10 s
  | .decode => Sys2Proof.Machine.execDecode s
  | .decodeFast => Sys2Proof.Machine.execDecodeFast s
  | .decodeFastFb => Sys2Proof.Machine.execDecodeFastFb s
  | .hdrParse => Sys2Proof.Machine.execHdrParse s
  | .rlePack => Sys2Proof.Machine.execRlePack s
  | .rleUnpack => Sys2Proof.Machine.execRleUnpack s
  | .predEncDelta => Sys2Proof.Machine.execPredEncDelta s
  | .predEncAvg => Sys2Proof.Machine.execPredEncAvg s
  | .predEncPaeth => Sys2Proof.Machine.execPredEncPaeth s
  | .predDecDelta => Sys2Proof.Machine.execPredDecDelta s
  | .predDecAvg => Sys2Proof.Machine.execPredDecAvg s
  | .predDecPaeth => Sys2Proof.Machine.execPredDecPaeth s
  | .filtEncNone => Sys2Proof.Machine.execFiltEncNone s
  | .filtEncSub => Sys2Proof.Machine.execFiltEncSub s
  | .filtEncUp => Sys2Proof.Machine.execFiltEncUp s
  | .filtEncAverage => Sys2Proof.Machine.execFiltEncAverage s
  | .filtEncPaeth => Sys2Proof.Machine.execFiltEncPaeth s
  | .filtEncAdaptive => Sys2Proof.Machine.execFiltEncAdaptive s
  | .filtDec => Sys2Proof.Machine.execFiltDec s
  | .zencDefault => Sys2Proof.Machine.execZencDefault s
  | .zencFiltered => Sys2Proof.Machine.execZencFiltered s
  | .zencHuffman => Sys2Proof.Machine.execZencHuffman s
  | .zdec => Sys2Proof.Machine.execZdec s
  | .palEnc => Sys2Proof.Machine.execPalEnc s
  | .palDec => Sys2Proof.Machine.execPalDec s
  | .method0Identity fl => Sys2Proof.Machine.execMethod0Identity fl s
  | .method1RleZ fl => Sys2Proof.Machine.execMethod1RleZ fl s
  | .method2Z fl => Sys2Proof.Machine.execMethod2Z fl s
  | .method3ZBestStrategy fl => Sys2Proof.Machine.execMethod3ZBestStrategy fl s
  | .method4PredZ fl => Sys2Proof.Machine.execMethod4PredZ fl s
  | .method5PaletteZ fl => Sys2Proof.Machine.execMethod5PaletteZ fl s
  | .method6AdaptiveFilterZ fl => Sys2Proof.Machine.execMethod6AdaptiveFilterZ fl s
  | .method7UniformFilterZ fl => Sys2Proof.Machine.execMethod7UniformFilterZ fl s
  | .method8RleFilterZ fl => Sys2Proof.Machine.execMethod8RleFilterZ fl s
  | .method9AdaptiveFilterZ2 fl => Sys2Proof.Machine.execMethod9AdaptiveFilterZ2 fl s
  | .method10UniformFilterZ2 fl => Sys2Proof.Machine.execMethod10UniformFilterZ2 fl s
  | .filterTag0None => Sys2Proof.Machine.execFilterTag0None s
  | .filterTag1Sub => Sys2Proof.Machine.execFilterTag1Sub s
  | .filterTag2Up => Sys2Proof.Machine.execFilterTag2Up s
  | .filterTag3Average => Sys2Proof.Machine.execFilterTag3Average s
  | .filterTag4Paeth => Sys2Proof.Machine.execFilterTag4Paeth s
  | .predTag0Delta => Sys2Proof.Machine.execPredTag0Delta s
  | .predTag1Avg => Sys2Proof.Machine.execPredTag1Avg s
  | .predTag2Paeth => Sys2Proof.Machine.execPredTag2Paeth s

end Sys2Proof.Machine
end

