-- ==== Sys2Proof/Machine/Sequencer.lean ====
section
/-! DEFINITION. What each event does (60_exceptions R461): the engine's turns, which fetch the instruction they run
from the latched record or from internal storage, and the host's accesses. -/

namespace Sys2Proof.Machine

/-- The kind a code that is no instruction fails with (40_commands R162, 44_method_catalog R345, 42_filter_engine
R251). -/
def rejectionKind : Decoded → ErrKind
  | .instr _ => .illegalCommand
  | .illegal => .illegalCommand
  | .unsupported _ => .unsupportedMethod
  | .corrupt _ => .corruptPayload

/-- The engine's turn: the complete step (40_commands R161). The command word is decoded first (R162). While IDLE the
engine does nothing (60_exceptions R468). -/
def engineTurn (s : State) : Host.Outcome State Fault Refusal :=
  match s.phase with
  | .idle => .next s
  | .busy l tainted =>
    match Sys2Proof.decode (.cmd l.word) with
    | .instr i => exec i s
    | .illegal => .next (rejectCommand l tainted (rejectionKind .illegal) s)
    | .unsupported m => .next (rejectCommand l tainted (rejectionKind (.unsupported m)) s)
    | .corrupt b => .next (rejectCommand l tainted (rejectionKind (.corrupt b)) s)

/-- The running command's stream fails with a kind: recorded in internal storage (log 5). -/
def stageFails (k : ErrKind) (s : State) : State := { s with work := { s.work with fail := some k } }

/-- The engine consumes the code byte at the head of the stream in internal storage, in the format the stream gives
it there, and runs it (log 5). Nothing happens while IDLE, at the end of the stream, or after a failure. -/
def stageTurn (fmt : CodeFormat) (s : State) : Host.Outcome State Fault Refusal :=
  match s.phase.isBusy, s.work.fail, s.work.inp with
  | true, none, b :: rest =>
    match byteCode fmt b with
    | none => .next s
    | some code =>
      match Sys2Proof.decode code with
      | .instr i => exec i { s with work := { s.work with inp := rest } }
      | .illegal => .next (stageFails (rejectionKind .illegal) s)
      | .unsupported m => .next (stageFails (rejectionKind (.unsupported m)) s)
      | .corrupt t => .next (stageFails (rejectionKind (.corrupt t)) s)
  | _, _, _ => .next s

/-- What an event does. -/
def runEvent (e : Event) (s : State) : Host.Outcome State Fault Refusal :=
  match e with
  | .busWrite addr data => busWrite addr data s
  | .busRead addr n => busRead addr n s
  | .hwReset => .next (doReset s)
  | .engine => engineTurn s
  | .stage fmt => stageTurn fmt s
  | .wait => .next (waitTurn s)

/-- The next transition: the next event of this run; when none is left, the engine's turn, so that a command whose
host does nothing more completes (70_reset_and_hazards R505, log 3). -/
def transition (s : State) : Host.Outcome State Fault Refusal :=
  match s.inputs with
  | [] => engineTurn s
  | e :: rest => runEvent e { s with inputs := rest }

/-- A command word where the engine finds its next instruction: accepted (R160), with its complete step next (log
7). -/
def placeCommand (w : Word) (s : State) : State := { accept w s with inputs := .engine :: s.inputs }

/-- A byte code where the engine finds its next instruction: at the head of the stream of a command in progress whose
word is `w`, with the stage that reads it in the format `fmt` next (log 7). -/
def placeByte (w : Word) (fmt : CodeFormat) (b : Byte) (s : State) : State :=
  { s with
    phase := .busy (latch w s) false
    cmd := w
    status := s.status.accepted
    work := { Work.empty with inp := [b] }
    inputs := .stage fmt :: s.inputs }

/-- A byte code placed in the format `decodeTableByte` reads it in: a row tag in a FILT_DEC, else a FLAGS byte in a
DECODE (logs 6, 7). -/
def placeTableByte (b : Byte) (s : State) : State :=
  match (decodeRowTag b).instr? with
  | some _ => placeByte 0x00000015 .rowTag b s
  | none => placeByte 0x00000003 .flags b s

/-- The instruction whose bits are w, numbered as the opcode table numbers them, placed where the next transition
takes it: a 32-bit command word or an 8-bit code (logs 6, 7). -/
def placeTableWord (s : State) (nbits w : Nat) : State :=
  if nbits = 8 then placeTableByte (BitVec.ofNat 8 w) s else placeCommand (BitVec.ofNat 32 w) s

end Sys2Proof.Machine
end

