-- ==== Sys2Proof/Machine/HostProgram.lean ====
section
/-! DEFINITION. Host programs (30_encoding R139, R140): lines of bus transactions and waits, and the pseudo-
instructions, as the events the machine runs. -/

namespace Sys2Proof.Machine

/-- A line of a host program (R139). -/
inductive HostLine where
  /-- `WR REG, value` -/
  | wr (r : Reg) (value : Word)
  /-- `RD REG` -/
  | rd (r : Reg)
  /-- `WAIT` -/
  | wait
  /-- `MEM addr: b0 b1 ...`: initial memory bytes, no transaction -/
  | mem (addr : Word) (data : Bytes)
  deriving DecidableEq, Repr

/-- The bus address of a register (10_state R32). -/
def regAddr (P : Params) (r : Reg) : Word := BitVec.ofNat 32 (P.engineBase + r.offset)

/-- The transactions of a line (R139). -/
def HostLine.events (P : Params) : HostLine → List Event
  | .wr r v => [.busWrite (regAddr P r) (wordBytes v)]
  | .rd r => [.busRead (regAddr P r) 4]
  | .wait => [.wait]
  | .mem _ _ => []

/-- The initial memory a line states (R139). -/
def HostLine.load (m : Memory) : HostLine → Memory
  | .wr _ _ => m
  | .rd _ => m
  | .wait => m
  | .mem a bs => m.write a.toNat bs

/-- A program ready to run: its `MEM` bytes placed, its transactions to come. -/
def loadProgram (lines : List HostLine) (s : State) : State :=
  { s with
    mem := lines.foldl HostLine.load s.mem
    inputs := s.inputs ++ lines.flatMap (HostLine.events s.cfg) }

/-! ## Pseudo-instructions (R140) -/

/-- The command word of an instruction; none for a byte code. -/
def commandWord (i : Instr) : Option Word :=
  match encode i with
  | .cmd w => some w
  | .flags _ => none
  | .rowTag _ => none
  | .m4Tag _ => none

/-- `RUN cmd`. -/
def lineRun (i : Instr) : List HostLine :=
  match commandWord i with
  | some w => [.wr .cmd w, .wait]
  | none => []

/-- `ACK`: clears DONE, ERR and DROP. -/
def lineAck : List HostLine := [.wr .status 0x0000000E]

/-- `SETSRC a, n`. -/
def lineSetSrc (a n : Word) : List HostLine := [.wr .srcAddr a, .wr .srcLen n]

/-- `SETDST a, n`. -/
def lineSetDst (a n : Word) : List HostLine := [.wr .dstAddr a, .wr .dstCap n]

/-- `SETIMG w, h, c`. -/
def lineSetImg (w h c : Word) : List HostLine := [.wr .imgW w, .wr .imgH h, .wr .imgCh c]

/-- `SRST`. -/
def lineSrst : List HostLine := [.wr .ctrl 0x80000000]

end Sys2Proof.Machine
end

