-- ==== Sys2Proof/Safety.lean ====
section
/-! DEFINITION. The vocabulary of claims about runs: what a completed command leaves, what it leaves alone, and the
invariant of the machine. -/

namespace Sys2Proof.Machine

/-! ## What a completion leaves alone -/

/-- Parameters, host-written registers, CMD, and the model's inputs and read data: no completion changes them (10_state
R31, R55, 60_exceptions R454). -/
structure Untouched (s t : State) : Prop where
  cfg : t.cfg = s.cfg
  outRgba : t.outRgba = s.outRgba
  irqEn : t.irqEn = s.irqEn
  cmd : t.cmd = s.cmd
  srcAddr : t.srcAddr = s.srcAddr
  srcLen : t.srcLen = s.srcLen
  dstAddr : t.dstAddr = s.dstAddr
  dstCap : t.dstCap = s.dstCap
  imgW : t.imgW = s.imgW
  imgH : t.imgH = s.imgH
  imgCh : t.imgCh = s.imgCh
  inputs : t.inputs = s.inputs
  rdata : t.rdata = s.rdata

/-- Every byte of memory outside `n` bytes from `base` on reads as before. -/
def SameOutside (base n : Nat) (s t : State) : Prop :=
  ∀ a, (a < base ∨ base + n ≤ a) → t.mem.get a = s.mem.get a

/-- Every byte of memory reads as before. -/
def SameMemory (s t : State) : Prop := ∀ a, t.mem.get a = s.mem.get a

/-! ## Completions -/

/-- The running command is `l`, the host has written none of its windows, its operand checks pass, no window lies over
a device, and memory is in canonical form. -/
structure Ready (checks : Params → Latch → Res Unit) (l : Latch) (s : State) : Prop where
  memory : s.mem.wf = true
  running : s.phase = .busy l false
  operands : checks s.cfg l = .ok ()
  ordinary : l.overDevice s.cfg = false

/-- `t` is `s` after a successful completion of `l` with the result `r` (40_commands R161, 60_exceptions R456). What
CAND_SIZE holds is said apart. -/
structure Succeeds (l : Latch) (r : Result) (s t : State) : Prop where
  untouched : Untouched s t
  draws : t.draws = s.draws
  phase : t.phase = .idle
  work : t.work = Work.empty
  done : t.status.done = true
  err : t.status.err = false
  errcode : t.status.errcode = 0
  drop : t.status.drop = s.status.drop
  resMethod : t.status.resMethod.toNat = r.flags.method
  resAlpha : t.status.resAlpha = r.flags.alpha
  padded : t.status.padded = r.flags.padded
  fellback : t.status.fellback = r.flags.fellback
  palExcl : t.status.palExcl = r.flags.palExcl
  dstLen : t.dstLen.toNat = r.data.length
  resW : t.resW.toNat = r.w
  resH : t.resH.toNat = r.h
  resCh : t.resCh.toNat = r.ch
  written : ∀ i b, r.data[i]? = some b → t.mem.get (l.dstAddr.toNat + i) = b
  elsewhere : SameOutside l.dstAddr.toNat r.data.length s t

/-- The registers of `t` after an error completion with kind `k` from `s` (60_exceptions R455). -/
structure ErrorRegisters (k : ErrKind) (s t : State) : Prop where
  untouched : Untouched s t
  phase : t.phase = .idle
  work : t.work = Work.empty
  done : t.status.done = true
  err : t.status.err = true
  errcode : t.status.errcode = errCode k
  drop : t.status.drop = s.status.drop
  resMethod : t.status.resMethod = 0
  resAlpha : t.status.resAlpha = false
  padded : t.status.padded = false
  fellback : t.status.fellback = false
  palExcl : t.status.palExcl = false
  dstLen : t.dstLen = 0
  resW : t.resW = 0
  resH : t.resH = 0
  resCh : t.resCh = 0

/-- An error completion by a check that writes no memory and no CAND_SIZE (40_commands R162, R163). -/
structure Rejected (k : ErrKind) (s t : State) : Prop where
  registers : ErrorRegisters k s t
  candSize : t.candSize = s.candSize
  memory : t.mem = s.mem

/-- An error completion after the operand checks: memory outside the destination window is unchanged (20_memory R84).
What CAND_SIZE holds is said apart. -/
structure FailsAfterChecks (l : Latch) (k : ErrKind) (s t : State) : Prop where
  registers : ErrorRegisters k s t
  memory : SameOutside l.dstAddr.toNat l.dstCap.toNat s t

/-- The outcome of a stage command whose rule gives `r` (40_commands section 4, R179): it completes in a next state,
with the bytes `r` gives if they fit the destination window, and CAND_SIZE is unchanged. -/
def StageOutcome (i : Instr) (l : Latch) (r : Res Bytes) (s : State) : Prop :=
  ∃ t, exec i s = .next t ∧ t.candSize = s.candSize ∧
    match r with
    | .ok D =>
      (D.length ≤ l.dstCap.toNat → Succeeds l (stageResult D) s t) ∧
      (l.dstCap.toNat < D.length → FailsAfterChecks l .bufferError s t)
    | .error k => FailsAfterChecks l k s t

/-- The outcome of a stage command whose rule gives `r` under SCRATCH_BYTES (00_scope R16, 60_exceptions R451): that of
`r` where it is unbounded, and under a finite bound that of `r` or RESOURCE_LIMIT (logs 12, 13). -/
def BoundedOutcome (i : Instr) (l : Latch) (r : Res Bytes) (s : State) : Prop :=
  StageOutcome i l r s ∨ (s.cfg.scratch ≠ none ∧ StageOutcome i l (.error .resourceLimit) s)

/-- The outcome of a command that reaches `finish` with the result `r` (R179). -/
def FinishOutcome (l : Latch) (r : Result) (s t : State) : Prop :=
  (r.data.length ≤ l.dstCap.toNat → Succeeds l r s t) ∧
  (l.dstCap.toNat < r.data.length → FailsAfterChecks l .bufferError s t)

/-! ## Rows with an operand in their name -/

/-- The rows ENCODE_M 0 to ENCODE_M 10, each with its method id (30_encoding R112). -/
def encodeMRows : List (Nat × Instr) :=
  [(0, .encodeM0), (1, .encodeM1), (2, .encodeM2), (3, .encodeM3), (4, .encodeM4), (5, .encodeM5), (6, .encodeM6),
   (7, .encodeM7), (8, .encodeM8), (9, .encodeM9), (10, .encodeM10)]

/-- The rows PRED_ENC v (30_encoding R133). -/
def predEncRows : List (Variant × Instr) := [(.delta, .predEncDelta), (.avg, .predEncAvg), (.paeth, .predEncPaeth)]

/-- The rows PRED_DEC v (30_encoding R133). -/
def predDecRows : List (Variant × Instr) := [(.delta, .predDecDelta), (.avg, .predDecAvg), (.paeth, .predDecPaeth)]

/-- The rows FILT_ENC t with t at most 4 (30_encoding R129). -/
def filtEncRows : List (Filter × Instr) :=
  [(.none, .filtEncNone), (.sub, .filtEncSub), (.up, .filtEncUp), (.average, .filtEncAverage), (.paeth, .filtEncPaeth)]

/-- The rows ZENC s (30_encoding R134). -/
def zencRows : List (Strategy × Instr) :=
  [(.default, .zencDefault), (.filtered, .zencFiltered), (.huffmanOnly, .zencHuffman)]

/-- The rows of the FLAGS format, each with its method id (30_encoding R120). -/
def methodRows (fl : Flags) : List (Nat × Instr) :=
  [(0, .method0Identity fl), (1, .method1RleZ fl), (2, .method2Z fl), (3, .method3ZBestStrategy fl),
   (4, .method4PredZ fl), (5, .method5PaletteZ fl), (6, .method6AdaptiveFilterZ fl), (7, .method7UniformFilterZ fl),
   (8, .method8RleFilterZ fl), (9, .method9AdaptiveFilterZ2 fl), (10, .method10UniformFilterZ2 fl)]

/-- The rows of the ROW_TAG format (30_encoding R129). -/
def rowTagRows : List (Filter × Instr) :=
  [(.none, .filterTag0None), (.sub, .filterTag1Sub), (.up, .filterTag2Up), (.average, .filterTag3Average),
   (.paeth, .filterTag4Paeth)]

/-- The rows of the M4_TAG format (30_encoding R133). -/
def m4TagRows : List (Variant × Instr) := [(.delta, .predTag0Delta), (.avg, .predTag1Avg), (.paeth, .predTag2Paeth)]

/-- The commands that read IMG_CH (40_commands R163 item 1). -/
def channelReaders : List Instr :=
  [.encode, .rlePack, .rleUnpack, .filtDec, .filtEncAdaptive, .palEnc, .palDec] ++ encodeMRows.map Prod.snd ++
    predEncRows.map Prod.snd ++ predDecRows.map Prod.snd ++ filtEncRows.map Prod.snd

/-- The commands that read IMG_W and IMG_H (R163 item 3). -/
def geometryReaders : List Instr :=
  [.encode, .filtDec, .filtEncAdaptive] ++ encodeMRows.map Prod.snd ++ predEncRows.map Prod.snd ++
    predDecRows.map Prod.snd ++ filtEncRows.map Prod.snd

/-- The commands whose source must be exactly the image (R171, R173). -/
def imageReaders : List Instr := [.filtEncAdaptive] ++ predEncRows.map Prod.snd ++ filtEncRows.map Prod.snd

/-- The OP values of 30_encoding R111. -/
def listedOps : List Nat :=
  [0x01, 0x02, 0x03, 0x04, 0x05, 0x10, 0x11, 0x12, 0x13, 0x14, 0x15, 0x16, 0x17, 0x18, 0x19]

/-- The legal M values of an OP (30_encoding R112). -/
def legalModes (op : Nat) : List Nat :=
  if op = 0x02 then [0, 1, 2, 3, 4, 5, 6, 7, 8, 9, 10]
  else if op = 0x12 ∨ op = 0x13 ∨ op = 0x16 then [0, 1, 2]
  else if op = 0x14 then [0, 1, 2, 3, 4, 5]
  else [0]

/-! ## The invariant -/

/-- Memory is in canonical form and lists only addresses that hold memory (20_memory R86, 00_scope R18). -/
def MemoryInv (s : State) : Prop := s.mem.wf = true ∧ ∀ c ∈ s.mem, holdsMemory s.cfg c.1 = true

/-- What the command phase says of the other state. IDLE: internal storage holds nothing (10_state R59). BUSY: CMD
holds the latched word (R37, R57), STATUS is as acceptance left it but for DROP (R40), and a legal ENCODE or ENCODE_M
has CAND_SIZE cleared (R52, R160). -/
def PhaseInv (s : State) : Prop :=
  match s.phase with
  | .idle => s.work = Work.empty
  | .busy l _ =>
    s.cmd = l.word ∧ s.status = { Status.reset with drop := s.status.drop } ∧
      (isEncodeWord l.word = true → s.candSize = candNone)

/-- The invariant every transition keeps. -/
def Inv (s : State) : Prop := MemoryInv s ∧ PhaseInv s

end Sys2Proof.Machine
end

