-- ==== Sys2Proof/Certificates/Slice0/Obligations.lean ====
section
/-! DEFINITION. The statements for the provers. Each docstring names the rules of spec/ it formalises. -/

open Sys2Proof Sys2Proof.Machine

/-! ## Encoding -/

/-- Decode and encode agree (30_encoding R111 to R113, R119, R129, R133): every well-formed instruction, in whatever
format, decodes from its own code. -/
def Obligations.DecodeEncodeAgree : Prop :=
  ∀ i : Instr, i.wellFormed = true → Sys2Proof.decode (Sys2Proof.encode i) = .instr i

/-- Every command word has one meaning and every command one word (R114, R115): a word decodes to an instruction
exactly when it is that instruction's encoding. -/
def Obligations.CommandWordsUnambiguous : Prop :=
  ∀ (w : Word) (i : Instr), decodeCmd w = .instr i ↔ Sys2Proof.encode i = .cmd w

/-- `decode_cmd` (R115), over the fields of the word as numbers, the checks in the order the rule shows. -/
def Obligations.CommandDecodeOrder : Prop :=
  ∀ w : Word,
    let op := w.toNat % 256
    let m := w.toNat / 256 % 16
    let f := w.toNat / 4096 % 2
    let rsvd := w.toNat / 8192
    (rsvd ≠ 0 → decodeCmd w = .illegal) ∧
    (rsvd = 0 → op ∉ listedOps → decodeCmd w = .illegal) ∧
    (rsvd = 0 → op ∈ listedOps → f = 1 → op ≠ 0x04 → decodeCmd w = .illegal) ∧
    (rsvd = 0 → f = 0 → op = 0x02 → 11 ≤ m → decodeCmd w = .unsupported m) ∧
    (rsvd = 0 → op ∈ listedOps → (f = 0 ∨ op = 0x04) → ¬(op = 0x02 ∧ 11 ≤ m) → m ∉ legalModes op →
      decodeCmd w = .illegal) ∧
    (rsvd = 0 → op ∈ listedOps → (f = 0 ∨ op = 0x04) → m ∈ legalModes op →
      ∃ i, decodeCmd w = .instr i ∧ Sys2Proof.encode i = .cmd w)

/-- The byte codes (R119, R120, R122, R125, R129, 42_filter_engine R251): a FLAGS byte decodes by its low five bits,
ids 11 to 15 are unsupported; row tags over 4 and method-4 tags over 2 are rejected. -/
def Obligations.ByteCodesDecode : Prop :=
  ∀ b : Byte,
    (b.toNat % 16 ≤ 10 → ∃ i, decodeFlags b = .instr i ∧ Sys2Proof.encode i = .flags (b &&& 0x1F)) ∧
    (10 < b.toNat % 16 → decodeFlags b = .unsupported (b.toNat % 16)) ∧
    (b.toNat ≤ 4 → ∃ i, decodeRowTag b = .instr i ∧ Sys2Proof.encode i = .rowTag b) ∧
    (4 < b.toNat → decodeRowTag b = .corrupt b) ∧
    (b.toNat ≤ 2 → ∃ i, decodeM4Tag b = .instr i ∧ Sys2Proof.encode i = .m4Tag b) ∧
    (2 < b.toNat → decodeM4Tag b = .corrupt b)

/-- A few words written out from R138, R119, R129 and R133. -/
def Obligations.SampleWordsDecode : Prop :=
  decodeCmd 0x00000001 = .instr .encode ∧
  decodeCmd 0x00000A02 = .instr .encodeM10 ∧
  decodeCmd 0x00000003 = .instr .decode ∧
  decodeCmd 0x00001004 = .instr .decodeFastFb ∧
  decodeCmd 0x00000213 = .instr .predDecPaeth ∧
  decodeCmd 0x00000514 = .instr .filtEncAdaptive ∧
  decodeCmd 0x00000216 = .instr .zencHuffman ∧
  decodeCmd 0x00000B02 = .unsupported 11 ∧
  decodeCmd 0x00000000 = .illegal ∧
  decodeFlags 0x16 = .instr (.method6AdaptiveFilterZ { alpha := true }) ∧
  decodeRowTag 0x04 = .instr .filterTag4Paeth ∧
  decodeM4Tag 0x01 = .instr .predTag1Avg

/-! ## Steps -/

/-- A step at the engine's turn runs the decoded command (40_commands R161, R162): `step` is `exec` of the instruction
the latched word decodes to, with the turn taken off the model's schedule and nothing else around it. -/
def Obligations.StepRunsCommand : Prop :=
  ∀ (s : State) (l : Latch) (tainted : Bool) (i : Instr) (rest : List Event),
    s.phase = .busy l tainted → (s.inputs = [] ∧ rest = [] ∨ s.inputs = .engine :: rest) →
    decodeCmd l.word = .instr i → i.wellFormed = true → step s = exec i { s with inputs := rest }

/-- A step at a stage turn runs the decoded byte code (log 5): the code byte is taken off the stream first. -/
def Obligations.StepRunsByteCode : Prop :=
  ∀ (s : State) (l : Latch) (tainted : Bool) (fmt : CodeFormat) (b : Byte) (tl : Bytes) (c : Code) (i : Instr)
    (rest : List Event),
    s.phase = .busy l tainted → s.work.fail = none → s.work.inp = b :: tl → s.inputs = .stage fmt :: rest →
    byteCode fmt b = some c → Sys2Proof.decode c = .instr i → i.wellFormed = true →
    step s = exec i { s with inputs := rest, work := { s.work with inp := tl } }

/-- The accept step (40_commands R160; 10_state R37, R40, R52, R57): the write of w to CMD while IDLE. -/
def Obligations.AcceptStep : Prop :=
  ∀ (s : State) (w : Word) (rest : List Event),
    s.phase = .idle → s.inputs = .busWrite (regAddr s.cfg .cmd) (wordBytes w) :: rest →
    ∃ t, step s = .next t ∧
      t.phase = .busy
        { word := w, outRgba := s.outRgba, srcAddr := s.srcAddr, srcLen := s.srcLen, dstAddr := s.dstAddr,
          dstCap := s.dstCap, w := s.imgW, h := s.imgH, ch := s.imgCh } false ∧
      t.cmd = w ∧
      t.status =
        { done := false, err := false, drop := s.status.drop, errcode := 0, resMethod := 0, resAlpha := false,
          padded := false, fellback := false, palExcl := false } ∧
      ((w.toNat % 256 = 1 ∨ w.toNat % 256 = 2) ∧ (∃ i, decodeCmd w = .instr i) →
        ∀ m : Fin 11, t.candSize[m.val] = 0xFFFFFFFF) ∧
      (¬((w.toNat % 256 = 1 ∨ w.toNat % 256 = 2) ∧ (∃ i, decodeCmd w = .instr i)) → t.candSize = s.candSize) ∧
      t.irq = false ∧
      t = { s with
        phase := t.phase, cmd := w, status := t.status, candSize := t.candSize, work := t.work, inputs := rest }

/-- The submission hazard (70_reset_and_hazards R497, 10_state R37): a CMD write while BUSY is dropped; it sets DROP and
changes nothing else. -/
def Obligations.DroppedSubmission : Prop :=
  ∀ (s : State) (l : Latch) (tainted : Bool) (w : Word) (rest : List Event),
    s.phase = .busy l tainted → s.inputs = .busWrite (regAddr s.cfg .cmd) (wordBytes w) :: rest →
    step s = .next { s with inputs := rest, status := { s.status with drop := true } }

/-- Reads and read-only registers, offset by offset (10_state R32, R33, R37, R41 to R52, R54): an aligned 32-bit read
returns the register's value and changes no register and no memory; a write to a read-only register changes nothing.
What CAP, CTRL and STATUS read is RegisterContents; where the bytes read go is the model's (log 8). -/
def Obligations.RegisterAccess : Prop :=
  ∀ (s : State) (rest : List Event),
    let reg (off : Nat) : Word := BitVec.ofNat 32 (s.cfg.engineBase + off)
    let reads (off : Nat) (v : Word) : Prop :=
      s.inputs = .busRead (reg off) 4 :: rest → step s = .next { s with inputs := rest, rdata := wordBytes v }
    let ignored (off : Nat) : Prop :=
      ∀ v : Word, s.inputs = .busWrite (reg off) (wordBytes v) :: rest → step s = .next { s with inputs := rest }
    (∀ p ∈ [(0x00, 0x5058010A), (0x04, readReg .cap s), (0x08, readReg .ctrl s), (0x0C, s.cmd),
      (0x10, readReg .status s), (0x14, s.srcAddr), (0x18, s.srcLen), (0x1C, s.dstAddr), (0x20, s.dstCap),
      (0x24, s.dstLen), (0x28, s.imgW), (0x2C, s.imgH), (0x30, s.imgCh), (0x34, s.resW), (0x38, s.resH),
      (0x3C, s.resCh)], reads p.1 p.2) ∧
    (∀ m : Fin 11, reads (0x40 + 4 * m.val) s.candSize[m.val]) ∧
    (∀ off ∈ [0x00, 0x04, 0x24, 0x34, 0x38, 0x3C], ignored off) ∧
    (∀ m : Fin 11, ignored (0x40 + 4 * m.val))

/-- Reserved offsets (10_state R53): 0x6C to 0xFC read 0, and a write changes nothing. -/
def Obligations.ReservedOffsets : Prop :=
  ∀ (s : State) (off : Nat) (v : Word) (rest : List Event),
    0x6C ≤ off → off ≤ 0xFC → off % 4 = 0 →
    (s.inputs = .busRead (BitVec.ofNat 32 (s.cfg.engineBase + off)) 4 :: rest →
      step s = .next { s with inputs := rest, rdata := [0, 0, 0, 0] }) ∧
    (s.inputs = .busWrite (BitVec.ofNat 32 (s.cfg.engineBase + off)) (wordBytes v) :: rest →
      step s = .next { s with inputs := rest })

/-- An access to the register block that is not one aligned 32-bit access is refused (10_state R54, 93 I1). That an
access which only straddles an edge of the block is one to the block is DEDUCED (log 18). -/
def Obligations.BadRegisterAccess : Prop :=
  ∀ (s : State) (a : Word) (data : Bytes) (n : Nat) (rest : List Event),
    ((∃ x, a.toNat ≤ x ∧ x < a.toNat + data.length ∧ s.cfg.inBlock x = true) →
      ¬(data.length = 4 ∧ a.toNat % 4 = 0) → s.inputs = .busWrite a data :: rest →
      step s = .refused .registerAccess) ∧
    ((∃ x, a.toNat ≤ x ∧ x < a.toNat + n ∧ s.cfg.inBlock x = true) →
      ¬(n = 4 ∧ a.toNat % 4 = 0) → s.inputs = .busRead a n :: rest →
      step s = .refused .registerAccess)

/-- What the constant and the status registers read (10_state R33, R34, R35, R38, R56): ID and CAP by value, CTRL and
STATUS bit by bit, reserved bits 0. -/
def Obligations.RegisterContents : Prop :=
  ∀ s : State,
    readReg .id s = 0x5058010A ∧
    (readReg .cap s).toNat = 0x7FF + 0x10000 * s.cfg.fastSubset.toNat ∧
    (readReg .ctrl s).toNat = s.outRgba.toNat + 2 * s.irqEn.toNat ∧
    (readReg .status s).toNat =
      s.phase.isBusy.toNat + 2 * s.status.done.toNat + 4 * s.status.err.toNat + 8 * s.status.drop.toNat +
        0x100 * s.status.errcode.toNat + 0x10000 * s.status.resMethod.toNat + 0x100000 * s.status.resAlpha.toNat +
        0x200000 * s.status.padded.toNat + 0x400000 * s.status.fellback.toNat + 0x800000 * s.status.palExcl.toNat

/-- A write to STATUS (10_state R39): bits 1, 2 and 3 are cleared where the value has a 1, no other bit changes, no
other register changes, and clearing DONE drops `irq`. -/
def Obligations.StatusWrite : Prop :=
  ∀ (s : State) (v : Word) (rest : List Event),
    s.inputs = .busWrite (regAddr s.cfg .status) (wordBytes v) :: rest →
    ∃ t, step s = .next t ∧
      (∀ i, (readReg .status t).getLsbD i =
        ((readReg .status s).getLsbD i && !(decide (1 ≤ i ∧ i ≤ 3) && v.getLsbD i))) ∧
      (v.getLsbD 1 = true → t.irq = false) ∧
      t = { s with status := t.status, inputs := rest }

/-- Host register writes (10_state R35, R41 to R44, R46 to R48, R55): an operand register takes all 32 bits at once in
either phase; CTRL, with bit 31 clear, takes bits 1:0, reads the rest 0, and moves `irq` at once. Nothing else changes:
not the latched record, no result register. -/
def Obligations.HostRegisterWrites : Prop :=
  ∀ (s : State) (v : Word) (rest : List Event),
    let s' : State := { s with inputs := rest }
    let wr (r : Reg) : List Event := .busWrite (regAddr s.cfg r) (wordBytes v) :: rest
    (s.inputs = wr .srcAddr → step s = .next { s' with srcAddr := v }) ∧
    (s.inputs = wr .srcLen → step s = .next { s' with srcLen := v }) ∧
    (s.inputs = wr .dstAddr → step s = .next { s' with dstAddr := v }) ∧
    (s.inputs = wr .dstCap → step s = .next { s' with dstCap := v }) ∧
    (s.inputs = wr .imgW → step s = .next { s' with imgW := v }) ∧
    (s.inputs = wr .imgH → step s = .next { s' with imgH := v }) ∧
    (s.inputs = wr .imgCh → step s = .next { s' with imgCh := v }) ∧
    (v.getLsbD 31 = false → s.inputs = wr .ctrl →
      let t : State := { s' with outRgba := v.getLsbD 0, irqEn := v.getLsbD 1 }
      step s = .next t ∧ readReg .ctrl t = v &&& 3 ∧ t.irq = (v.getLsbD 1 && s.status.done))

/-! ## Reset -/

/-- The values after reset (10_state R61, R32), as the registers read, at the default parameters; that memory lists
nothing is the model's choice (log 2). -/
def Obligations.ResetValues : Prop :=
  State.reset.phase = .idle ∧ State.reset.irq = false ∧ State.reset.mem = [] ∧
  readReg .id State.reset = 0x5058010A ∧ readReg .cap State.reset = 0x000D07FF ∧
  (∀ r : Reg, r ∈ [Reg.ctrl, .cmd, .status, .srcAddr, .srcLen, .dstAddr, .dstCap, .dstLen, .imgW, .imgH, .imgCh,
    .resW, .resH, .resCh, .reserved] → readReg r State.reset = 0) ∧
  (∀ m : Fin 11, readReg (.candSize m) State.reset = 0xFFFFFFFF)

/-- Reset (70_reset_and_hazards R490 to R492, 10_state R36): the hardware reset and a CTRL write with bit 31 set, its
other bits whatever they are, are one transition; every register takes its reset value; memory is unchanged but for
the destination window of an abandoned command, whose source window is unchanged. -/
def Obligations.ResetStep : Prop :=
  ∀ (s : State) (v : Word) (rest : List Event), v.getLsbD 31 = true →
    ∃ t, step { s with inputs := .hwReset :: rest } = .next t ∧
      step { s with inputs := .busWrite (regAddr s.cfg .ctrl) (wordBytes v) :: rest } = .next t ∧
      t = { State.reset with
        cfg := s.cfg, inputs := rest, rdata := s.rdata, mem := t.mem, draws := t.draws } ∧
      t.irq = false ∧
      (s.phase = .idle → t.mem = s.mem) ∧
      (∀ l tainted, s.phase = .busy l tainted → s.mem.wf = true →
        SameOutside l.dstAddr.toNat l.dstCap.toNat s t ∧
          ∀ a, l.inSrc a = true → t.mem.get a = s.mem.get a)

/-! ## Operand checks -/

/-- `chk_win` (20_memory R81, R85, R86, R87): it passes exactly when no window passes the top of the address space,
every address of both windows is memory outside the register block, and the windows share no address; else the kind
is BUFFER_ERROR. -/
def Obligations.WindowCheck : Prop :=
  ∀ (P : Params) (l : Latch),
    let inS (a : Nat) : Prop := l.srcAddr.toNat ≤ a ∧ a < l.srcAddr.toNat + l.srcLen.toNat
    let inD (a : Nat) : Prop := l.dstAddr.toNat ≤ a ∧ a < l.dstAddr.toNat + l.dstCap.toNat
    (chkWin P l = .ok () ↔
      l.srcAddr.toNat + l.srcLen.toNat ≤ 2 ^ 32 ∧ l.dstAddr.toNat + l.dstCap.toNat ≤ 2 ^ 32 ∧
      (∀ a, inS a ∨ inD a →
        P.memOk a = true ∧ ¬(P.engineBase ≤ a ∧ a < P.engineBase + 256)) ∧
      ¬∃ a, inS a ∧ inD a) ∧
    (chkWin P l ≠ .ok () → chkWin P l = .error .bufferError)

/-- The order of the operand checks (40_commands R163 items 1 to 3): the channel count, then the windows, then the
geometry; the command completes with the first kind that applies and writes no memory. -/
def Obligations.OperandCheckOrder : Prop :=
  ∀ (s : State) (l : Latch), s.phase = .busy l false →
    (∀ i ∈ channelReaders, l.ch ≠ 3 → l.ch ≠ 4 → ∃ t, exec i s = .next t ∧ Rejected .illegalCommand s t) ∧
    (∀ i : Instr, i.format = .cmd → (i ∈ channelReaders → l.ch = 3 ∨ l.ch = 4) → chkWin s.cfg l ≠ .ok () →
      ∃ t, exec i s = .next t ∧ Rejected .bufferError s t) ∧
    (∀ i ∈ geometryReaders, (l.ch = 3 ∨ l.ch = 4) → chkWin s.cfg l = .ok () →
      (65535 < l.w.toNat ∨ 65535 < l.h.toNat ∨ s.cfg.maxPixels < l.w.toNat * l.h.toNat) →
      ∃ t, exec i s = .next t ∧ Rejected .dimensionError s t)

/-- The source-length checks (40_commands R164, R165, R169, R171, R172, R173, R177; R163 item 4), after the others. That
PRED_DEC's check of width 0 is one of them, so that its failure writes no memory, is DEDUCED (log 15). -/
def Obligations.SourceLengthChecks : Prop :=
  ∀ (s : State) (l : Latch), s.phase = .busy l false → (l.ch = 3 ∨ l.ch = 4) → chkWin s.cfg l = .ok () →
    (∀ i ∈ [Instr.rlePack, .palEnc], l.srcLen.toNat % l.ch.toNat ≠ 0 →
      ∃ t, exec i s = .next t ∧ Rejected .dimensionError s t) ∧
    (l.w.toNat ≤ 65535 → l.h.toNat ≤ 65535 → l.w.toNat * l.h.toNat ≤ s.cfg.maxPixels →
      (∀ i ∈ Instr.encode :: encodeMRows.map Prod.snd, l.srcLen.toNat < l.w.toNat * l.h.toNat * l.ch.toNat →
        ∃ t, exec i s = .next t ∧ Rejected .bufferError s t) ∧
      (∀ i ∈ imageReaders, l.srcLen.toNat ≠ l.w.toNat * l.h.toNat * l.ch.toNat →
        ∃ t, exec i s = .next t ∧ Rejected .dimensionError s t) ∧
      (l.w = 0 → 0 < l.srcLen.toNat →
        ∃ t, exec .predDecPaeth s = .next t ∧ Rejected .dimensionError s t))

/-- A rejected command word (40_commands R162): an illegal word completes with ILLEGAL_COMMAND, ENCODE_M with M of 11 or
more with UNSUPPORTED_METHOD, and no memory and no CAND_SIZE entry changes, whether the engine's turn is taken from the
model's schedule or comes when no input is left (log 3). -/
def Obligations.RejectedCommandWord : Prop :=
  ∀ (s : State) (l : Latch) (rest : List Event), s.phase = .busy l false →
    (s.inputs = [] ∧ rest = [] ∨ s.inputs = .engine :: rest) →
    (decodeCmd l.word = .illegal →
      ∃ t, step s = .next t ∧ Rejected .illegalCommand { s with inputs := rest } t) ∧
    (∀ m, decodeCmd l.word = .unsupported m →
      l.word.toNat % 256 = 0x02 ∧ 11 ≤ l.word.toNat / 256 % 16 ∧
      ∃ t, step s = .next t ∧ Rejected .unsupportedMethod { s with inputs := rest } t)

/-- A window over a device (20_memory R93): an instruction answers a next state or refuses, and it refuses exactly when
it is a command whose operand checks pass and one of whose windows holds a device's address. That the checks come first
is the model's choice (log 16). -/
def Obligations.OnlyDeviceWindowsStop : Prop :=
  ∀ (i : Instr) (s : State),
    ((∃ t, exec i s = .next t) ∨ exec i s = .refused .deviceWindow) ∧
    (exec i s = .refused .deviceWindow ↔
      i.format = .cmd ∧ ∃ l tainted, s.phase = .busy l tainted ∧ checksOf i s.cfg l = .ok () ∧
        ∃ a, (l.inSrc a = true ∨ l.inDst a = true) ∧ s.cfg.isDevice a = true)

/-! ## Completion -/

/-- The frame of every command (20_memory R84, 60_exceptions R454, R455, R459; 40_commands R161): whatever the outcome,
a draw included, the phase is IDLE, DONE is 1, DROP is unchanged, `irq` is IRQ_EN, no host-written register changes,
and no byte outside the destination window changes. -/
def Obligations.CommandFrame : Prop :=
  ∀ (i : Instr) (s t : State) (l : Latch) (tainted : Bool),
    i.format = .cmd → s.mem.wf = true → s.phase = .busy l tainted → exec i s = .next t →
    Untouched s t ∧ t.phase = .idle ∧ t.work = Work.empty ∧ t.status.done = true ∧
      t.status.drop = s.status.drop ∧ t.irq = s.irqEn ∧ SameOutside l.dstAddr.toNat l.dstCap.toNat s t

/-- An error completion (60_exceptions R455, R451): an untainted command that completes with ERR set has one of the ten
kinds, and it has left what R455 lists: the registers, `irq`, CAND_SIZE as 10_state R52 fills it, memory outside the
destination window, and all of memory when an operand check failed. One that completes without ERR has ERRCODE 0
(R456). That PRED_DEC's check of width 0 is an operand check, so that its failure writes no memory, is DEDUCED (log 15);
that ENCODE_M's CAND_SIZE entry saturates as ENCODE's does (`candEntry`) is DEDUCED (log 25). -/
def Obligations.ErrorCompletion : Prop :=
  ∀ (i : Instr) (s t : State) (l : Latch),
    i.format = .cmd → s.mem.wf = true → s.phase = .busy l false → exec i s = .next t →
    let B := (source l s).take (l.w.toNat * l.h.toNat * l.ch.toNat)
    let entry (m : Nat) : Word :=
      candEntry (encMethod s.cfg m (raw B l.ch.toNat).bytes l.w.toNat l.h.toNat (raw B l.ch.toNat).ch)
    (t.status.err = false → t.status.errcode = 0) ∧
    (t.status.err = true →
      (∃ k, ErrorRegisters k s t) ∧ t.irq = s.irqEn ∧ SameOutside l.dstAddr.toNat l.dstCap.toNat s t ∧
      (∀ k, checksOf i s.cfg l = .error k → Rejected k s t) ∧
      (i ∉ Instr.encode :: encodeMRows.map Prod.snd → t.candSize = s.candSize) ∧
      (i = .encode → checksOf i s.cfg l = .ok () → ∀ m : Fin 11, t.candSize[m.val] = entry m.val) ∧
      (∀ p ∈ encodeMRows, i = p.2 → checksOf i s.cfg l = .ok () →
        ∀ m : Fin 11, t.candSize[m.val] = if m.val = p.1 then entry m.val else 0xFFFFFFFF))

/-- The buffer hazard (20_memory R99, 70_reset_and_hazards R495): a host write of memory while BUSY makes the command's
result a draw exactly when it writes a window of the running command; the write itself takes effect. The flag that
remembers it is the model's (log 9). -/
def Obligations.BufferHazard : Prop :=
  ∀ (s : State) (l : Latch) (tainted : Bool) (a : Word) (data : Bytes) (rest : List Event),
    s.mem.wf = true → s.phase = .busy l tainted → s.inputs = .busWrite a data :: rest →
    (∀ x, a.toNat ≤ x → x < a.toNat + data.length → holdsMemory s.cfg x = true ∧ s.cfg.isDevice x = false) →
    ∃ t, step s = .next t ∧
      (∃ tainted', t.phase = .busy l tainted' ∧
        (tainted' = true ↔ tainted = true ∨
          ∃ x, a.toNat ≤ x ∧ x < a.toNat + data.length ∧ (l.inSrc x = true ∨ l.inDst x = true))) ∧
      (∀ i b, data[i]? = some b → t.mem.get (a.toNat + i) = b) ∧
      SameOutside a.toNat data.length s t ∧
      t = { s with phase := t.phase, mem := t.mem, inputs := rest }

/-- A host read of memory (20_memory R82, R99): outside the destination window of a running command it returns the bytes
of memory; it changes no register and no memory. Where the bytes go, and that the access must lie on memory, are the
model's (logs 8, 17). -/
def Obligations.HostRead : Prop :=
  ∀ (s : State) (a : Word) (n : Nat) (rest : List Event),
    s.inputs = .busRead a n :: rest →
    (∀ x, a.toNat ≤ x → x < a.toNat + n → holdsMemory s.cfg x = true ∧ s.cfg.isDevice x = false) →
    ∃ t, step s = .next t ∧
      t = { s with inputs := rest, rdata := t.rdata, draws := t.draws } ∧ t.rdata.length = n ∧
      (∀ i < n, (∀ l tainted, s.phase = .busy l tainted → l.inDst (a.toNat + i) = false) →
        t.rdata[i]? = some (s.mem.get (a.toNat + i)))

/-- Progress (70_reset_and_hazards R505): while BUSY, when no input is left, the complete step is the next transition,
unless a window lies over a device. R505 says only that it is taken after finitely many transitions; that it is the
very next one then is the model's choice (log 3). -/
def Obligations.Progress : Prop :=
  ∀ (s : State) (l : Latch) (tainted : Bool), s.phase = .busy l tainted → s.inputs = [] →
    l.overDevice s.cfg = false → ∃ t, step s = .next t ∧ t.phase = .idle ∧ t.status.done = true

/-- A command's result depends on its record, the parameters and the source bytes alone (20_memory R100). -/
def Obligations.ResultDependsOnSource : Prop :=
  ∀ (i : Instr) (s₁ s₂ t₁ t₂ : State) (l : Latch),
    i.format = .cmd → s₁.mem.wf = true → s₂.mem.wf = true → s₁.phase = .busy l false → s₂.phase = .busy l false →
    s₁.cfg = s₂.cfg → source l s₁ = source l s₂ → exec i s₁ = .next t₁ → exec i s₂ = .next t₂ →
    { t₁.status with drop := false } = { t₂.status with drop := false } ∧ t₁.dstLen = t₂.dstLen ∧
      t₁.resW = t₂.resW ∧ t₁.resH = t₂.resH ∧ t₁.resCh = t₂.resCh ∧
      (s₁.candSize = s₂.candSize → t₁.candSize = t₂.candSize) ∧
      (t₁.status.err = false →
        t₁.mem.read l.dstAddr.toNat t₁.dstLen.toNat = t₂.mem.read l.dstAddr.toNat t₁.dstLen.toNat)

/-- POOL_SIZE has no visible effect (00_scope R17, 45_encoder_selector R386). -/
def Obligations.PoolSizeInvisible : Prop :=
  ∀ (i : Instr) (s t : State) (n : Nat), exec i s = .next t →
    exec i { s with cfg := { s.cfg with extraEvaluators := n } } =
      .next { t with cfg := { s.cfg with extraEvaluators := n } }

/-! ## Invariants -/

/-- Every step keeps the invariant, from every state that has it: memory is canonical and lists only addresses that
hold memory; internal storage holds nothing while IDLE; while BUSY, CMD is the latched word, STATUS is as acceptance
left it but for DROP, and a legal encode has CAND_SIZE cleared (10_state R37, R40, R52, R59). No step changes a
parameter (R30). The canonical form and what an unlisted byte reads as are the model's choice (log 2), and so is
internal storage's layout (log 5). -/
def Obligations.StepKeepsInvariant : Prop :=
  ∀ s t : State, step s = .next t → (Inv s → Inv t) ∧ t.cfg = s.cfg

/-- The state after reset has the invariant (10_state R61); memory's form is the model's choice (log 2). -/
def Obligations.ResetHasInvariant : Prop := Inv State.reset

/-! ## Image commands -/

/-- ENCODE (40_commands R164, 45_encoder_selector R380 to R388): it completes; the method it chose succeeds with a
payload no longer than any other's, the lowest id on equal lengths; every CAND_SIZE entry reports its method; the
container is written if it fits, and otherwise the command fails with BUFFER_ERROR. RAW, what it encodes (R380, R389):
alpha is set exactly when some alpha byte of the input is not 255, and otherwise the alpha bytes are stripped. -/
def Obligations.Encode : Prop :=
  ∀ (s : State) (l : Latch), Ready checksEncode l s →
    let W := l.w.toNat
    let H := l.h.toNat
    let B := (source l s).take (W * H * l.ch.toNat)
    let x := raw B l.ch.toNat
    (x.alpha = true ↔ l.ch = 4 ∧ ∃ j < W * H, natAt B (4 * j + 3) ≠ 255) ∧
    (x.alpha = true ∨ l.ch = 3 → x.bytes = B ∧ x.ch = l.ch.toNat) ∧
    (x.alpha = false → l.ch = 4 →
      x.ch = 3 ∧ x.bytes = (List.range (W * H)).flatMap fun j => slice B (4 * j) 3) ∧
    ∃ m Y t, m ≤ 10 ∧ encMethod s.cfg m x.bytes W H x.ch = .ok Y ∧
      (∀ m' Y', encMethod s.cfg m' x.bytes W H x.ch = .ok Y' →
        Y.length < Y'.length ∨ (Y.length = Y'.length ∧ m ≤ m')) ∧
      exec .encode s = .next t ∧
      (∀ k : Fin 11, t.candSize[k.val] = candEntry (encMethod s.cfg k.val x.bytes W H x.ch)) ∧
      FinishOutcome l
        { data := container W H m x.alpha Y
          w := W
          h := H
          ch := x.ch
          flags :=
            { method := m, alpha := x.alpha, padded := false, fellback := false,
              palExcl := decide (256 < distinct x.bytes x.ch) } } s t

/-- ENCODE_M 0 to ENCODE_M 10 (40_commands R165): the forced method's payload in a container, or the method's own
failure; CAND_SIZE has that method's entry alone (that sat32 applies to it too is DEDUCED, log 25). -/
def Obligations.EncodeForced : Prop :=
  ∀ p ∈ encodeMRows, ∀ (s : State) (l : Latch), Ready checksEncode l s →
    let W := l.w.toNat
    let H := l.h.toNat
    let x := raw ((source l s).take (W * H * l.ch.toNat)) l.ch.toNat
    (∀ Y, encMethod s.cfg p.1 x.bytes W H x.ch = .ok Y →
      ∃ t, exec p.2 s = .next t ∧
        (∀ k : Fin 11, t.candSize[k.val] = if k.val = p.1 then sat32 Y.length else 0xFFFFFFFF) ∧
        FinishOutcome l
          { data := container W H p.1 x.alpha Y
            w := W
            h := H
            ch := x.ch
            flags := { method := p.1, alpha := x.alpha, padded := false, fellback := false, palExcl := false } } s t) ∧
    (∀ kind, encMethod s.cfg p.1 x.bytes W H x.ch = .error kind →
      ∃ t, exec p.2 s = .next t ∧ (∀ k : Fin 11, t.candSize[k.val] = 0xFFFFFFFF) ∧ FailsAfterChecks l kind s t)

/-- How an encode pipeline can fail (44_method_catalog R353): method 0 never; method 5 with PALETTE_OVERFLOW exactly
when there are more than 256 distinct pixels, whatever SCRATCH_BYTES is (45_encoder_selector R384); otherwise only with RESOURCE_LIMIT, and only under a finite
SCRATCH_BYTES. -/
def Obligations.EncodeFailures : Prop :=
  ∀ (P : Params) (m : Nat) (R : Bytes) (W H C : Nat), m ≤ 10 →
    encMethod P 0 R W H C = .ok R ∧
    (256 < distinct R C → encMethod P 5 R W H C = .error .paletteOverflow) ∧
    (∀ k, encMethod P m R W H C = .error k →
      (m = 5 ∧ k = .paletteOverflow ∧ 256 < distinct R C) ∨
      (m ≠ 0 ∧ k = .resourceLimit ∧ P.scratch ≠ none))

/-- What ZDECODE accepts and rejects (43_entropy_stage R291, R292, R293, R298, R303, R307). A stream without its two header
bytes or its first block is truncated; a bad header, a first block of type 3 and a stored block with a bad length pair
are corrupt; an accepted stream has at least 4 bytes of header and blocks and then the big-endian Adler-32 of its output.
So every stream the decoder accepts, and every entropy encoder's output, has at least 8 bytes; every method other than 0
has a payload of at least 8 bytes, method 4 of at least 9. -/
def Obligations.ShortestStream : Prop :=
  (∀ (limit : Option Nat) (S x : Bytes), zdecode limit S = .ok x → 8 ≤ S.length) ∧
  (∀ (P : Params) (st : Strategy) (x : Bytes), 8 ≤ (P.entropyEnc st x).length) ∧
  (∀ (P : Params) (m : Nat) (R Y : Bytes) (W H C : Nat), m ≠ 0 → encMethod P m R W H C = .ok Y →
    8 ≤ Y.length ∧ (m = 4 → 9 ≤ Y.length)) ∧
  (∀ (limit : Option Nat) (S : Bytes), S.length < 2 → zdecode limit S = .error .truncatedPayload) ∧
  (∀ (limit : Option Nat) (cmf flg : Byte) (tl : Bytes),
    let bad : Prop := (cmf.toNat * 256 + flg.toNat) % 31 ≠ 0 ∨ cmf.toNat % 16 ≠ 8 ∨ 7 < cmf.toNat / 16 ∨
      flg.getLsbD 5 = true
    (bad → zdecode limit (cmf :: flg :: tl) = .error .corruptPayload) ∧
    (¬bad → tl = [] → zdecode limit (cmf :: flg :: tl) = .error .truncatedPayload) ∧
    (¬bad → ∀ (b : Byte) (rest : Bytes), tl = b :: rest →
      (b.toNat / 2 % 4 = 3 → zdecode limit (cmf :: flg :: tl) = .error .corruptPayload) ∧
      (b.toNat / 2 % 4 = 0 → ∀ (l0 l1 n0 n1 : Byte) (data : Bytes), rest = l0 :: l1 :: n0 :: n1 :: data →
        l0.toNat + 256 * l1.toNat + (n0.toNat + 256 * n1.toNat) ≠ 0xFFFF →
        zdecode limit (cmf :: flg :: tl) = .error .corruptPayload))) ∧
  (∀ (limit : Option Nat) (S x : Bytes), zdecode limit S = .ok x →
    ∃ blocks rest : Bytes, 4 ≤ blocks.length ∧ S = blocks ++ u32be (adler32 x) ++ rest)

/-- Small images select method 0 (45_encoder_selector R389, 44_method_catalog R354): 8 raw bytes or fewer. -/
def Obligations.SmallImagesChooseIdentity : Prop :=
  ∀ (P : Params) (R : Bytes) (W H C : Nat), R.length ≤ 8 → (select P R W H C).choice = some (0, R)

/-- DECODE (40_commands R166, 46_decoder R413 to R417), for a header that passes its checks: the fitted and expanded
output of the method's inverse pipeline, or that pipeline's failure; an image of no pixels leaves its payload
unexamined. That FIT and EXPAND count nothing under a finite SCRATCH_BYTES is the model's choice (log 12). -/
def Obligations.Decode : Prop :=
  ∀ (s : State) (l : Latch) (hdr : Hdr), Ready checksWindows l s → parseHeader (source l s) = .ok hdr →
    let C := if hdr.alpha then 4 else 3
    let OC := if l.outRgba = true ∨ hdr.alpha = true then 4 else 3
    let result (D : Bytes) (padded : Bool) : Result :=
      { data := D
        w := hdr.w
        h := hdr.h
        ch := OC
        flags := { method := hdr.method, alpha := hdr.alpha, padded := padded, fellback := false, palExcl := false } }
    hdr.w * hdr.h ≤ s.cfg.maxPixels → hdr.w * hdr.h * OC ≤ l.dstCap.toNat →
    ∃ t, exec .decode s = .next t ∧ t.candSize = s.candSize ∧
      (hdr.w * hdr.h = 0 → Succeeds l (result [] false) s t) ∧
      (hdr.w * hdr.h ≠ 0 →
        match decMethod s.cfg hdr.method ((source l s).drop 7) hdr.w C with
        | .ok X =>
          Succeeds l (result (expand (fit X (hdr.w * hdr.h) C).1 C OC) (decide (X.length ≠ hdr.w * hdr.h * C))) s t
        | .error k => FailsAfterChecks l k s t)

/-- The decoder's own checks (46_decoder R410 to R412, R417): a header failure, then MAX_PIXELS, then the capacity; the
last two write no memory. -/
def Obligations.DecodeChecks : Prop :=
  ∀ (s : State) (l : Latch), Ready checksWindows l s →
    (∀ k, parseHeader (source l s) = .error k →
      ∃ t, exec .decode s = .next t ∧ t.candSize = s.candSize ∧ FailsAfterChecks l k s t) ∧
    (∀ hdr, parseHeader (source l s) = .ok hdr → s.cfg.maxPixels < hdr.w * hdr.h →
      ∃ t, exec .decode s = .next t ∧ Rejected .dimensionError s t) ∧
    (∀ hdr, parseHeader (source l s) = .ok hdr → hdr.w * hdr.h ≤ s.cfg.maxPixels →
      l.dstCap.toNat < hdr.w * hdr.h * (if l.outRgba = true ∨ hdr.alpha = true then 4 else 3) →
      ∃ t, exec .decode s = .next t ∧ Rejected .bufferError s t)

/-- `PARSE_HEADER` (46_decoder R410, R411): its results, in the order of its checks. -/
def Obligations.HeaderParse : Prop :=
  ∀ S : Bytes,
    (¬(∃ tl, S = 0x50 :: 0x58 :: tl) → parseHeader S = .error .badMagic) ∧
    (∀ tl, S = 0x50 :: 0x58 :: tl → tl.length < 5 → parseHeader S = .error .truncatedPayload) ∧
    (∀ w0 w1 h0 h1 f : Byte, ∀ Y : Bytes, S = [0x50, 0x58, w0, w1, h0, h1, f] ++ Y →
      (10 < f.toNat % 16 → parseHeader S = .error .unsupportedMethod) ∧
      (f.toNat % 16 ≤ 10 → parseHeader S = .ok
        { w := w0.toNat + 256 * w1.toNat
          h := h0.toNat + 256 * h1.toNat
          method := f.toNat % 16
          alpha := f.getLsbD 4 }))

/-- `FIT` (46_decoder R415): exactly N pixels, those present kept, the missing ones opaque black; `padded` says whether
the length was not N pixels. -/
def Obligations.PadOrTruncate : Prop :=
  ∀ (X : Bytes) (N C : Nat), (C = 3 ∨ C = 4) →
    (fit X N C).1.length = N * C ∧ (fit X N C).2 = decide (X.length ≠ N * C) ∧
    (∀ j < N, slice (fit X N C).1 (j * C) C =
      if (j + 1) * C ≤ X.length then slice X (j * C) C else if C = 3 then [0, 0, 0] else [0, 0, 0, 255])

/-- DECODE_FAST, with and without fallback (40_commands R167, 46_decoder R419 to R421). On a method in FAST_SUBSET, or a
header that does not parse, both complete as DECODE does. On a method outside it, DECODE_FAST fails with
UNSUPPORTED_METHOD, and with fallback it completes as DECODE does, with FELLBACK set if that succeeds. -/
def Obligations.FastDecode : Prop :=
  ∀ (s : State) (l : Latch), Ready checksWindows l s →
    ((∀ hdr, parseHeader (source l s) = .ok hdr → s.cfg.inFast hdr.method = true) →
      ∃ t, exec .decode s = .next t ∧ exec .decodeFast s = .next t ∧ exec .decodeFastFb s = .next t) ∧
    (∀ hdr, parseHeader (source l s) = .ok hdr → s.cfg.inFast hdr.method = false →
      (∃ t, exec .decodeFast s = .next t ∧ t.candSize = s.candSize ∧ FailsAfterChecks l .unsupportedMethod s t) ∧
      (∃ t, exec .decode s = .next t ∧
        exec .decodeFastFb s = .next { t with status := { t.status with fellback := !t.status.err } }))

/-- HDR_PARSE (40_commands R168): the header's fields, no result bytes. -/
def Obligations.HeaderCommand : Prop :=
  ∀ (s : State) (l : Latch), Ready checksWindows l s →
    ∃ t, exec .hdrParse s = .next t ∧ t.candSize = s.candSize ∧
      match parseHeader (source l s) with
      | .ok hdr =>
        Succeeds l
          { data := []
            w := hdr.w
            h := hdr.h
            ch := if hdr.alpha then 4 else 3
            flags :=
              { method := hdr.method, alpha := hdr.alpha, padded := false, fellback := false, palExcl := false } } s t
      | .error k => FailsAfterChecks l k s t

/-! ## Stage commands -/

/-- RLE_PACK and RLE_UNPACK (40_commands R169, R170). Under a finite SCRATCH_BYTES they can also end in RESOURCE_LIMIT
(60_exceptions R451); whether they do is free (the model's choice, logs 12 and 13). -/
def Obligations.RleCommands : Prop :=
  ∀ (s : State) (l : Latch),
    (Ready checksPixels l s → BoundedOutcome .rlePack l (.ok (rle (source l s) l.ch.toNat)) s) ∧
    (Ready checksStream l s → BoundedOutcome .rleUnpack l (rleInv (source l s) l.ch.toNat) s)

/-- PRED_ENC and PRED_DEC, each variant (40_commands R171, R172). Under a finite SCRATCH_BYTES they can also end in
RESOURCE_LIMIT (60_exceptions R451); whether they do is free (the model's choice, logs 12 and 13). -/
def Obligations.PredictorCommands : Prop :=
  ∀ (s : State) (l : Latch),
    (∀ p ∈ predEncRows, Ready checksImage l s →
      BoundedOutcome p.2 l (.ok (pred p.1 (source l s) l.w.toNat l.ch.toNat)) s) ∧
    (∀ p ∈ predDecRows, Ready (checksResiduals p.1) l s →
      BoundedOutcome p.2 l (.ok (predInv p.1 (source l s) l.w.toNat l.ch.toNat)) s)

/-- FILT_ENC, each type and adaptive, and FILT_DEC (40_commands R173, R174). Under a finite SCRATCH_BYTES they can also
end in RESOURCE_LIMIT (60_exceptions R451); whether they do is free (the model's choice, logs 12 and 13). -/
def Obligations.FilterCommands : Prop :=
  ∀ (s : State) (l : Latch),
    (∀ p ∈ filtEncRows, Ready checksImage l s →
      BoundedOutcome p.2 l (.ok (filterUniform p.1 (source l s) l.w.toNat l.h.toNat l.ch.toNat)) s) ∧
    (Ready checksImage l s →
      BoundedOutcome .filtEncAdaptive l
        (.ok (filterAdaptive s.cfg.score (source l s) l.w.toNat l.h.toNat l.ch.toNat)) s) ∧
    (Ready checksFilterStream l s →
      BoundedOutcome .filtDec l (filterDecode (source l s) (l.w.toNat * l.ch.toNat) l.ch.toNat) s)

/-- ZENC, each strategy, and ZDEC (40_commands R175, R176). Under a finite SCRATCH_BYTES ZENC can also end in
RESOURCE_LIMIT (43_entropy_stage R309); whether it does is free (the model's choice, logs 12 and 13). -/
def Obligations.EntropyCommands : Prop :=
  ∀ (s : State) (l : Latch), Ready checksWindows l s →
    (∀ p ∈ zencRows, BoundedOutcome p.2 l (.ok (s.cfg.entropyEnc p.1 (source l s))) s) ∧
    StageOutcome .zdec l (zdecode s.cfg.scratch (source l s)) s

/-- PAL_ENC and PAL_DEC (40_commands R177, R178). Under a finite SCRATCH_BYTES they can also end in RESOURCE_LIMIT
(60_exceptions R451); whether they do is free (the model's choice, logs 12 and 13). -/
def Obligations.PaletteCommands : Prop :=
  ∀ (s : State) (l : Latch),
    (Ready checksPixels l s → BoundedOutcome .palEnc l (pal (source l s) l.ch.toNat) s) ∧
    (Ready checksStream l s → BoundedOutcome .palDec l (palInv (source l s) l.ch.toNat) s)

/-! ## Byte codes -/

/-- The FLAGS byte of a container in internal storage (44_method_catalog R340, 46_decoder R413, R414; the place of the
state is the model's, log 5): the method's inverse pipeline runs on the payload, and nothing but internal storage
changes. -/
def Obligations.MethodCodes : Prop :=
  ∀ (fl : Flags), ∀ p ∈ methodRows fl, ∀ (s : State) (l : Latch) (tainted : Bool), s.phase = .busy l tainted →
    let C := if fl.alpha then 4 else 3
    ∃ wk, exec p.2 s = .next { s with work := wk } ∧
      wk.inp = s.work.inp ∧ wk.above = s.work.above ∧ wk.w = s.work.w ∧ wk.h = s.work.h ∧ wk.c = C ∧
      (s.work.w * s.work.h = 0 → wk.out = [] ∧ wk.fail = s.work.fail) ∧
      (s.work.w * s.work.h ≠ 0 →
        match decMethod s.cfg p.1 s.work.inp s.work.w C with
        | .ok X => wk.out = X ∧ wk.fail = s.work.fail
        | .error k => wk.out = s.work.out ∧ wk.fail = some k)

/-- The tags in internal storage (42_filter_engine R249, R250, 44_method_catalog R345, 41_transform_primitives R209,
R210; the place of the state is the model's, log 5). A row tag reconstructs the row after it from the row above; the
row joins the output and becomes the row above. A method-4 tag decodes the entropy stream after it and reconstructs the
variant's pixels. Nothing but internal storage changes. -/
def Obligations.TagCodes : Prop :=
  ∀ (s : State) (l : Latch) (tainted : Bool), s.phase = .busy l tainted →
    (∀ p ∈ rowTagRows,
      let n := s.work.w * s.work.c
      let r := unfilterRow p.1 (s.work.inp.take n) s.work.above s.work.c
      exec p.2 s = .next
        { s with work := { s.work with inp := s.work.inp.drop n, above := r, out := s.work.out ++ r } }) ∧
    (∀ p ∈ m4TagRows,
      ∃ wk, exec p.2 s = .next { s with work := wk } ∧
        (s.work.w * s.work.h = 0 → wk = { s.work with out := [] }) ∧
        (s.work.w * s.work.h ≠ 0 →
          match dec4Body s.cfg p.1 s.work.inp s.work.w s.work.c with
          | .ok X => wk = { s.work with out := X }
          | .error k => wk = { s.work with fail := some k }) ∧
        (s.cfg.scratch = none → dec4Body s.cfg p.1 s.work.inp s.work.w s.work.c =
          (zdecode none s.work.inp).map fun E => predInv p.1 E s.work.w s.work.c))

/-- Row by row, the stage turns of a filter stream rebuild what FILTDEC gives, or fail as it fails (42_filter_engine
R250, R251, R253; log 5). -/
def Obligations.RowTagsRebuildStream : Prop :=
  ∀ (s : State) (l : Latch) (tainted : Bool),
    s.phase = .busy l tainted → s.work.fail = none → s.work.out = [] →
    s.work.above = zeros (s.work.w * s.work.c) →
    s.inputs = List.replicate s.work.inp.length (.stage .rowTag) →
    ∃ t, Host.Core.run Sys2Proof.core s.work.inp.length s = .next t ∧
      match filterDecode s.work.inp (s.work.w * s.work.c) s.work.c with
      | .ok X => t.work.out = X ∧ t.work.inp = [] ∧ t.work.fail = none
      | .error k => t.work.fail = some k

/-! ## Laws of the pipelines -/

/-- RLE packs and expands to the same bytes (41_transform_primitives R202). -/
def Obligations.RleRoundTrip : Prop :=
  ∀ (R : Bytes) (C : Nat), 0 < C → R.length % C = 0 → rleInv (rle R C) C = .ok R

/-- What RLE writes (41_transform_primitives R200): pairs whose counts are 1 to 255 and whose expansion is the pixels in
order; two neighbours hold the same pixel only if the first is full. What RLEINV reads (R201): pair by pair, an
incomplete one TRUNCATED_PAYLOAD, a count of 0 no pixels. -/
def Obligations.RleRuns : Prop :=
  (∀ (R : Bytes) (C : Nat), 0 < C → R.length % C = 0 →
    ∃ pairs : List (Nat × Bytes),
      rle R C = pairs.flatMap (fun q => BitVec.ofNat 8 q.1 :: q.2) ∧
      pairs.flatMap (fun q => List.replicate q.1 q.2) = px R C ∧
      (∀ q ∈ pairs, 1 ≤ q.1 ∧ q.1 ≤ 255 ∧ q.2.length = C) ∧
      pairs.IsChain (fun q q' => q.2 = q'.2 → q.1 = 255)) ∧
  (∀ C : Nat, rleInv [] C = .ok []) ∧
  (∀ (C : Nat) (k : Byte) (rest : Bytes), rest.length < C → rleInv (k :: rest) C = .error .truncatedPayload) ∧
  (∀ (k : Byte) (p rest : Bytes),
    rleInv (k :: p ++ rest) p.length =
      (rleInv rest p.length).map fun out => (List.replicate k.toNat p).flatten ++ out)

/-- The delta predictors (41_transform_primitives R203 to R209), their predictions written out: the first two variants
agree; every residual is the byte less its prediction mod 256, every reconstructed byte the residual plus the prediction
from the bytes before it mod 256, a prediction being at most 255; and every variant reconstructs. Variant 2 has no width
0 but over no bytes (R207, R210). -/
def Obligations.PredictorLaws : Prop :=
  ∀ (v : Variant) (R : Bytes) (W C : Nat), 0 < C → (v = .paeth → 0 < W ∨ R = []) →
    let prediction (X : Bytes) (i : Nat) : Nat :=
      match v with
      | .delta => if C ≤ i then natAt X (i - C) else 0
      | .avg => if C ≤ i then natAt X (i - C) else 0
      | .paeth =>
        let x := i / C % W
        let y := i / C / W
        if i / C = 0 then 0
        else if y = 0 then natAt X (i - C)
        else if x = 0 then natAt X (i - W * C)
        else (natAt X (i - C) + natAt X (i - W * C)) / 2
    pred .delta R W C = pred .avg R W C ∧ predInv .delta R W C = predInv .avg R W C ∧
    (pred v R W C).length = R.length ∧ (predInv v R W C).length = R.length ∧
    (∀ i < R.length, prediction R i ≤ 255 ∧
      (natAt (pred v R W C) i : Int) = ((natAt R i : Int) - prediction R i) % 256 ∧
      natAt (predInv v R W C) i = (natAt R i + prediction (predInv v R W C) i) % 256) ∧
    predInv v (pred v R W C) W C = R

/-- The palette packs and looks up to the same bytes (41_transform_primitives R215). -/
def Obligations.PaletteRoundTrip : Prop :=
  ∀ (R : Bytes) (C : Nat), 0 < C → R.length % C = 0 → distinct R C ≤ 256 →
    ∃ S, pal R C = .ok S ∧ palInv S C = .ok R

/-- What the palette writes (41_transform_primitives R211 to R213): the count, the distinct pixels in order of first
appearance, an index for each pixel; and PALETTE_OVERFLOW exactly over 256. What the lookup reads (R214): a missing count
or a short table is TRUNCATED_PAYLOAD, a count over 256 or an index not below it CORRUPT_PAYLOAD, and else each index
gives its table entry. -/
def Obligations.PaletteTable : Prop :=
  (∀ (R : Bytes) (C : Nat), 0 < C →
    ∃ T : List Bytes, T.Nodup ∧ (∀ p, p ∈ T ↔ p ∈ px R C) ∧ distinct R C = T.length ∧
      (∀ (j k : Nat) (p q : Bytes), T[j]? = some p → T[k]? = some q → j < k → (px R C).idxOf p < (px R C).idxOf q) ∧
      (256 < T.length → pal R C = .error .paletteOverflow) ∧
      (T.length ≤ 256 → ∃ idx : Bytes,
        pal R C = .ok (u16le T.length ++ T.flatten ++ idx) ∧ idx.length = (px R C).length ∧
        (∀ (j : Nat) (p : Bytes), (px R C)[j]? = some p → ∃ b : Byte, idx[j]? = some b ∧ T[b.toNat]? = some p))) ∧
  (∀ (S : Bytes) (C : Nat), S.length < 2 → palInv S C = .error .truncatedPayload) ∧
  (∀ (b0 b1 : Byte) (Y : Bytes) (C : Nat),
    let n := b0.toNat + 256 * b1.toNat
    (256 < n → palInv (b0 :: b1 :: Y) C = .error .corruptPayload) ∧
    (n ≤ 256 → Y.length < n * C → palInv (b0 :: b1 :: Y) C = .error .truncatedPayload) ∧
    (n ≤ 256 → ∀ table idx : Bytes, Y = table ++ idx → table.length = n * C →
      ((∃ b ∈ idx, n ≤ b.toNat) → palInv (b0 :: b1 :: Y) C = .error .corruptPayload) ∧
      ((∀ b ∈ idx, b.toNat < n) →
        palInv (b0 :: b1 :: Y) C = .ok (idx.flatMap fun b => slice table (b.toNat * C) C))))

/-- The filters reconstruct (42_filter_engine R254): every uniform type, and the adaptive choice under every row
score. -/
def Obligations.FilterRoundTrip : Prop :=
  ∀ (R : Bytes) (W H C : Nat), 0 < C → R.length = W * H * C →
    (∀ t, filterDecode (filterUniform t R W H C) (W * C) C = .ok R) ∧
    (∀ score : Bytes → Nat, filterDecode (filterAdaptive score R W H C) (W * C) C = .ok R)

/-- Rows and whole streams (42_filter_engine R240 to R245, R249 to R253). FROW: each byte less its prediction mod 256,
the neighbours original. UNROW: each byte plus its prediction mod 256, the left neighbours reconstructed. The Paeth
predictor is one of its three neighbours, at the least distance, the earlier of left, up, upper left on equal distances.
FUNIF: the type's tag, then FROW, for every row, row 0 too. FILTDEC, over any number of whole rows: they are
reconstructed by their own tags, each from the row reconstructed before it; then the stream ends, or a tag over 4 is
CORRUPT_PAYLOAD whatever follows it, or the bytes of a partial final row are reconstructed. -/
def Obligations.FilterRowBytes : Prop :=
  let tag (t : Filter) : Byte :=
    match t with
    | .none => 0
    | .sub => 1
    | .up => 2
    | .average => 3
    | .paeth => 4
  let prediction (t : Filter) (r q : Bytes) (bpp i : Nat) : Nat :=
    let a := if bpp ≤ i then natAt r (i - bpp) else 0
    let b := natAt q i
    let c := if bpp ≤ i then natAt q (i - bpp) else 0
    match t with
    | .none => 0
    | .sub => a
    | .up => b
    | .average => (a + b) / 2
    | .paeth => paeth a b c
  (∀ (t : Filter) (r q : Bytes) (bpp : Nat),
    (filterRow t r q bpp).length = r.length ∧
    ∀ i < r.length,
      (natAt (filterRow t r q bpp) i : Int) = ((natAt r i : Int) - prediction t r q bpp i) % 256) ∧
  (∀ (t : Filter) (f q : Bytes) (bpp : Nat), 0 < bpp → f.length ≤ q.length →
    let r := unfilterRow t f q bpp
    r.length = f.length ∧ ∀ i < f.length, natAt r i = (natAt f i + prediction t r q bpp i) % 256) ∧
  (∀ (t : Filter) (R : Bytes) (W H C : Nat), R.length = W * H * C →
    let row (y : Nat) : Bytes := (R.drop (y * (W * C))).take (W * C)
    filterUniform t R W H C =
      (List.range H).flatMap fun y =>
        tag t :: filterRow t (row y) (if y = 0 then List.replicate (W * C) 0 else row (y - 1)) C) ∧
  (∀ (n bpp : Nat) (rows : List (Filter × Bytes)) (out : List Bytes),
    let above (y : Nat) : Bytes := if y = 0 then List.replicate n 0 else out.getD (y - 1) []
    let S : Bytes := rows.flatMap fun x => tag x.1 :: x.2
    (∀ x ∈ rows, x.2.length = n) → out.length = rows.length →
    (∀ y t f, rows[y]? = some (t, f) → out[y]? = some (unfilterRow t f (above y) bpp)) →
    filterDecode S n bpp = .ok out.flatten ∧
    (∀ (b : Byte) (rest : Bytes), 4 < b.toNat → filterDecode (S ++ b :: rest) n bpp = .error .corruptPayload) ∧
    (∀ (t : Filter) (rest : Bytes), rest.length < n →
      filterDecode (S ++ tag t :: rest) n bpp =
        .ok (out.flatten ++ unfilterRow t rest (above rows.length) bpp))) ∧
  (∀ a b c : Nat,
    let d (x : Nat) : Nat := ((a : Int) + b - c - x).natAbs
    (d a ≤ d b → d a ≤ d c → paeth a b c = a) ∧ (d b < d a → d b ≤ d c → paeth a b c = b) ∧
      (d c < d a → d c < d b → paeth a b c = c))

/-- The adaptive filter (42_filter_engine R246 to R248): each row carries a type valid there (sub and average need a width
over 1; up, average and Paeth a row above) whose score is least among all valid types, the least type on equal
scores. -/
def Obligations.AdaptiveChoice : Prop :=
  ∀ (score : Bytes → Nat) (R : Bytes) (W H C : Nat),
    let valid (y : Nat) (t : Filter) : Prop :=
      match t with
      | .none => True
      | .sub => 1 < W
      | .up => 0 < y
      | .average => 1 < W ∧ 0 < y
      | .paeth => 0 < y
    ∃ types : List Filter, types.length = H ∧
      filterAdaptive score R W H C =
        (types.zipIdx.flatMap fun p =>
          p.1.tag :: filterRow p.1 (imageRow R (W * C) p.2) (rowAbove R (W * C) p.2) C) ∧
      (∀ y t, types[y]? = some t →
        valid y t ∧
        ∀ u, valid y u →
          let f (x : Filter) : Nat := score (filterRow x (imageRow R (W * C) y) (rowAbove R (W * C) y) C)
          f t < f u ∨ (f t = f u ∧ t.tag.toNat ≤ u.tag.toNat))

/-- The method catalog, id by id (44_method_catalog R341 to R351, 42_filter_engine R256), with unbounded SCRATCH_BYTES
and any entropy encoder that has the law E-inv: what each encode pipeline composes, a trial taking the shortest stream
and the lowest index on equal lengths; what each decode pipeline composes, on any payload; and that every method's
payload decodes to its raw bytes (R352, 43_entropy_stage R308). -/
def Obligations.MethodRoundTrip : Prop :=
  ∀ (P : Params) (W H C : Nat), P.scratch = none → (C = 3 ∨ C = 4) →
    let Z (x : Bytes) : Bytes := P.entropyEnc .default x
    let shortest (trials : List Bytes) (k : Nat) (X : Bytes) : Prop :=
      trials[k]? = some X ∧
      ∀ j X', trials[j]? = some X' → X.length < X'.length ∨ (X.length = X'.length ∧ k ≤ j)
    (∀ R : Bytes, R.length = W * H * C →
      let enc (m : Nat) : Res Bytes := encMethod P m R W H C
      let Q := rle R C
      enc 0 = .ok R ∧ enc 1 = .ok (Z Q) ∧ enc 2 = .ok (Z R) ∧
      (∃ k X, shortest [P.entropyEnc .default R, P.entropyEnc .filtered R, P.entropyEnc .huffmanOnly R] k X ∧
        enc 3 = .ok X) ∧
      (∃ k X, shortest [Z (pred .delta R W C), Z (pred .avg R W C), Z (pred .paeth R W C)] k X ∧
        enc 4 = .ok (BitVec.ofNat 8 k :: X)) ∧
      enc 5 = (pal R C).map Z ∧
      enc 6 = .ok (Z (filterAdaptive P.score R W H C)) ∧
      (∃ k X, shortest ([Filter.none, .sub, .up, .average, .paeth].map fun t => Z (filterUniform t R W H C)) k X ∧
        enc 7 = .ok X ∧ enc 10 = .ok (Z X)) ∧
      enc 8 = .ok (Z (filterAdaptive P.score Q (Q.length / (1 + C)) 1 (1 + C))) ∧
      enc 9 = .ok (Z (Z (filterAdaptive P.score R W H C)))) ∧
    (∀ Y : Bytes,
      let dec (m : Nat) : Res Bytes := decMethod P m Y W C
      let z := zdecode none
      let fromFilter (F : Bytes) : Res Bytes := filterDecode F (W * C) C
      let fromRleFilter (F : Bytes) : Res Bytes :=
        if F = [] then .ok [] else filterDecode F (F.length - 1) (1 + C)
      dec 0 = .ok Y ∧
      dec 1 = (z Y).bind (fun Q => rleInv Q C) ∧
      dec 2 = z Y ∧ dec 3 = z Y ∧
      (Y = [] → dec 4 = .error .truncatedPayload) ∧
      (∀ (v : Byte) (E : Bytes), Y = v :: E →
        dec 4 =
          if v = 0 then (z E).map fun X => predInv .delta X W C
          else if v = 1 then (z E).map fun X => predInv .avg X W C
          else if v = 2 then (z E).map fun X => predInv .paeth X W C
          else .error .corruptPayload) ∧
      dec 5 = (z Y).bind (fun T => palInv T C) ∧
      dec 6 = (z Y).bind fromFilter ∧ dec 7 = (z Y).bind fromFilter ∧
      dec 8 = ((z Y).bind fromRleFilter).bind (fun Q => rleInv Q C) ∧
      dec 9 = ((z Y).bind z).bind fromFilter ∧ dec 10 = ((z Y).bind z).bind fromFilter) ∧
    (∀ (m : Nat) (R Y : Bytes), m ≤ 10 → R.length = W * H * C → encMethod P m R W H C = .ok Y →
      decMethod P m Y W C = .ok R)

/-- Encode, then decode (45_encoder_selector R390), for the container of every method: OUT_RGBA 0 gives the raw bytes,
OUT_RGBA 1 the image's RGBA view. -/
def Obligations.EncodeThenDecode : Prop :=
  ∀ (P : Params) (m : Nat) (B Y : Bytes) (W H inCh cap : Nat) (outRgba : Bool),
    P.scratch = none → m ≤ 10 → (inCh = 3 ∨ inCh = 4) → W ≤ 65535 → H ≤ 65535 → W * H ≤ P.maxPixels →
    B.length = W * H * inCh → encMethod P m (raw B inCh).bytes W H (raw B inCh).ch = .ok Y →
    W * H * (if outRgba = true ∨ (raw B inCh).alpha = true then 4 else 3) ≤ cap →
    ∃ d, decodeFull P (container W H m (raw B inCh).alpha Y) outRgba cap = .ok d ∧ d.padded = false ∧
      (outRgba = false → d.data = (raw B inCh).bytes) ∧
      (outRgba = true → inCh = 4 → d.data = B) ∧
      (outRgba = true → inCh = 3 → d.data = (px B 3).flatMap fun p => p ++ [255])
end

