-- ==== Sys2Proof/Laws/Memory.lean ====
section
/-! SUPPORT. The laws of memory: what is read after a write, what a write leaves alone, which addresses it lists, and
that every operation keeps the canonical form. -/

namespace Sys2Proof.Machine

/-! ## The canonical form -/

theorem Memory.wfFrom_mono {lo lo' : Nat} {m : Memory} (h : Memory.wfFrom lo m = true) (hlo : lo' ≤ lo) :
    Memory.wfFrom lo' m = true := by
  cases m with
  | nil => rfl
  | cons c cs =>
    simp only [Memory.wfFrom, Bool.and_eq_true, decide_eq_true_eq] at h ⊢
    exact ⟨⟨⟨by omega, h.1.1.2⟩, h.1.2⟩, h.2⟩

theorem Memory.wfFrom_mem {lo : Nat} {m : Memory} (h : Memory.wfFrom lo m = true) {c : Host.Cell} (hc : c ∈ m) :
    lo ≤ c.1 ∧ c.1 < addressSpace ∧ c.2 ≠ unlistedByte := by
  induction m generalizing lo with
  | nil => cases hc
  | cons d ds ih =>
    simp only [Memory.wfFrom, Bool.and_eq_true, decide_eq_true_eq, bne_iff_ne] at h
    obtain rfl | hc := List.mem_cons.1 hc
    · exact ⟨h.1.1.1, h.1.1.2, h.1.2⟩
    · obtain ⟨h1, h2⟩ := ih h.2 hc
      exact ⟨by omega, h2⟩

/-- Below the first address it may list, canonical memory reads as unlisted. -/
theorem Memory.get_below {lo a : Nat} {m : Memory} (h : Memory.wfFrom lo m = true) (ha : a < lo) :
    m.get a = unlistedByte := by
  induction m generalizing lo with
  | nil => rfl
  | cons d ds ih =>
    simp only [Memory.wfFrom, Bool.and_eq_true, decide_eq_true_eq] at h
    rw [Memory.get, if_neg (by omega)]
    exact ih h.2 (by omega)

theorem Memory.insert_wfFrom {lo a : Nat} {b : Byte} {m : Memory} (h : Memory.wfFrom lo m = true) (hlo : lo ≤ a)
    (ha : a < addressSpace) : Memory.wfFrom lo (Memory.insert a b m) = true := by
  induction m generalizing lo with
  | nil =>
    by_cases hb : b = unlistedByte <;> simp [Memory.insert, hb, Memory.wfFrom, hlo, ha]
  | cons d ds ih =>
    have h0 := h
    simp only [Memory.wfFrom, Bool.and_eq_true, decide_eq_true_eq, bne_iff_ne] at h
    obtain ⟨⟨⟨h1, h2⟩, h3⟩, h4⟩ := h
    rw [Memory.insert]
    by_cases hlt : a < d.1
    · rw [if_pos hlt]
      by_cases hb : b = unlistedByte
      · rw [if_pos hb]; exact h0
      · rw [if_neg hb]
        simp only [Memory.wfFrom, Bool.and_eq_true, decide_eq_true_eq, bne_iff_ne]
        exact ⟨⟨⟨hlo, ha⟩, hb⟩, ⟨⟨by omega, h2⟩, h3⟩, h4⟩
    · rw [if_neg hlt]
      by_cases heq : a = d.1
      · rw [if_pos heq]
        by_cases hb : b = unlistedByte
        · rw [if_pos hb]; exact Memory.wfFrom_mono h4 (by omega)
        · rw [if_neg hb]
          simp only [Memory.wfFrom, Bool.and_eq_true, decide_eq_true_eq, bne_iff_ne]
          exact ⟨⟨⟨hlo, ha⟩, hb⟩, heq ▸ h4⟩
      · rw [if_neg heq]
        simp only [Memory.wfFrom, Bool.and_eq_true, decide_eq_true_eq, bne_iff_ne]
        exact ⟨⟨⟨h1, h2⟩, h3⟩, ih h4 (by omega)⟩

theorem Memory.put_wf {m : Memory} (a : Nat) (b : Byte) (h : m.wf = true) : (m.put a b).wf = true := by
  unfold Memory.put
  split
  · exact Memory.insert_wfFrom h (Nat.zero_le a) (by assumption)
  · exact h

theorem Memory.write_wf {m : Memory} (a : Nat) (bs : Bytes) (h : m.wf = true) : (m.write a bs).wf = true := by
  induction bs generalizing m a with
  | nil => exact h
  | cons b bs ih => exact ih (a + 1) (Memory.put_wf a b h)

theorem Memory.drawOver_wf {m : Memory} (free : Nat → Bool) (d n a : Nat) (h : m.wf = true) :
    (Memory.drawOver free d n a m).wf = true := by
  induction n generalizing m a d with
  | zero => exact h
  | succ n ih =>
    rw [Memory.drawOver]
    apply ih
    split
    · exact Memory.put_wf a _ h
    · exact h

/-! ## Read after write -/

theorem Memory.get_insert_same {lo a : Nat} {b : Byte} {m : Memory} (h : Memory.wfFrom lo m = true) :
    (Memory.insert a b m).get a = b := by
  induction m generalizing lo with
  | nil => by_cases hb : b = unlistedByte <;> simp [Memory.insert, hb, Memory.get]
  | cons d ds ih =>
    have h0 := h
    simp only [Memory.wfFrom, Bool.and_eq_true, decide_eq_true_eq, bne_iff_ne] at h
    rw [Memory.insert]
    by_cases hlt : a < d.1
    · rw [if_pos hlt]
      by_cases hb : b = unlistedByte
      · rw [if_pos hb, Memory.get, if_neg (by omega), Memory.get_below h.2 (by omega), hb]
      · rw [if_neg hb, Memory.get, if_pos rfl]
    · rw [if_neg hlt]
      by_cases heq : a = d.1
      · rw [if_pos heq]
        by_cases hb : b = unlistedByte
        · rw [if_pos hb, Memory.get_below h.2 (by omega), hb]
        · rw [if_neg hb, Memory.get, if_pos rfl]
      · rw [if_neg heq, Memory.get, if_neg (by omega)]
        exact ih h.2

theorem Memory.get_insert_other {lo a a' : Nat} {b : Byte} {m : Memory} (h : Memory.wfFrom lo m = true)
    (hne : a' ≠ a) : (Memory.insert a b m).get a' = m.get a' := by
  induction m generalizing lo with
  | nil => by_cases hb : b = unlistedByte <;> simp [Memory.insert, hb, Memory.get, hne.symm]
  | cons d ds ih =>
    simp only [Memory.wfFrom, Bool.and_eq_true, decide_eq_true_eq, bne_iff_ne] at h
    rw [Memory.insert]
    by_cases hlt : a < d.1
    · rw [if_pos hlt]
      by_cases hb : b = unlistedByte
      · rw [if_pos hb]
      · rw [if_neg hb, Memory.get, if_neg hne.symm]
    · rw [if_neg hlt]
      by_cases heq : a = d.1
      · rw [if_pos heq]
        by_cases hb : b = unlistedByte
        · rw [if_pos hb, Memory.get, if_neg (by omega)]
        · rw [if_neg hb, Memory.get, Memory.get, if_neg hne.symm, if_neg (by omega)]
      · rw [if_neg heq, Memory.get, Memory.get]
        split
        · rfl
        · exact ih h.2

theorem Memory.get_put_same {m : Memory} {a : Nat} (b : Byte) (h : m.wf = true) (ha : a < addressSpace) :
    (m.put a b).get a = b := by
  rw [Memory.put, if_pos ha]; exact Memory.get_insert_same h

theorem Memory.get_put_other {m : Memory} {a a' : Nat} (b : Byte) (h : m.wf = true) (hne : a' ≠ a) :
    (m.put a b).get a' = m.get a' := by
  unfold Memory.put
  split
  · exact Memory.get_insert_other h hne
  · rfl

theorem Memory.get_write_outside {m : Memory} {a a' : Nat} (bs : Bytes) (h : m.wf = true)
    (hout : a' < a ∨ a + bs.length ≤ a') : (m.write a bs).get a' = m.get a' := by
  induction bs generalizing m a with
  | nil => rfl
  | cons b bs ih =>
    simp only [List.length_cons] at hout
    rw [Memory.write, ih (Memory.put_wf a b h) (by omega), Memory.get_put_other b h (by omega)]

theorem Memory.get_write_inside {m : Memory} {a i : Nat} {bs : Bytes} {b : Byte} (h : m.wf = true)
    (hfit : a + bs.length ≤ addressSpace) (hi : bs[i]? = some b) : (m.write a bs).get (a + i) = b := by
  induction bs generalizing m a i with
  | nil => simp at hi
  | cons c bs ih =>
    simp only [List.length_cons] at hfit
    cases i with
    | zero =>
      simp only [List.getElem?_cons_zero, Option.some.injEq] at hi
      rw [Memory.write, Memory.get_write_outside bs (Memory.put_wf a c h) (by omega), Nat.add_zero,
        Memory.get_put_same c h (by omega), hi]
    | succ i =>
      simp only [List.getElem?_cons_succ] at hi
      rw [Memory.write, show a + (i + 1) = a + 1 + i from by omega]
      exact ih (Memory.put_wf a c h) (by omega) hi

theorem Memory.get_drawOver_outside {m : Memory} (free : Nat → Bool) {d n a a' : Nat} (h : m.wf = true)
    (hout : a' < a ∨ a + n ≤ a') : (Memory.drawOver free d n a m).get a' = m.get a' := by
  induction n generalizing m a d with
  | zero => rfl
  | succ n ih =>
    rw [Memory.drawOver]
    split
    · rw [ih (Memory.put_wf a _ h) (by omega), Memory.get_put_other _ h (by omega)]
    · exact ih h (by omega)

/-- An address that may not change keeps its byte. -/
theorem Memory.get_drawOver_kept {m : Memory} {free : Nat → Bool} {d n a a' : Nat} (h : m.wf = true)
    (hk : free a' = false) : (Memory.drawOver free d n a m).get a' = m.get a' := by
  induction n generalizing m a d with
  | zero => rfl
  | succ n ih =>
    rw [Memory.drawOver]
    split
    · next hf =>
      have hne : a' ≠ a := fun e => by rw [← e, hk] at hf; cases hf
      rw [ih (Memory.put_wf a _ h), Memory.get_put_other _ h hne]
    · exact ih h

/-! ## Which addresses are listed -/

theorem Memory.mem_insert {a : Nat} {b : Byte} {m : Memory} {c : Host.Cell} (h : c ∈ Memory.insert a b m) :
    c.1 = a ∨ c ∈ m := by
  induction m with
  | nil => by_cases hb : b = unlistedByte <;> simp_all [Memory.insert]
  | cons d ds ih =>
    rw [Memory.insert] at h
    split at h
    · split at h
      · exact .inr h
      · obtain rfl | h := List.mem_cons.1 h
        · exact .inl rfl
        · exact .inr h
    · split at h
      · split at h
        · exact .inr (List.mem_cons_of_mem _ h)
        · obtain rfl | h := List.mem_cons.1 h
          · exact .inl rfl
          · exact .inr (List.mem_cons_of_mem _ h)
      · obtain rfl | h := List.mem_cons.1 h
        · exact .inr List.mem_cons_self
        · exact (ih h).imp_right (List.mem_cons_of_mem _)

theorem Memory.mem_put {a : Nat} {b : Byte} {m : Memory} {c : Host.Cell} (h : c ∈ m.put a b) :
    c.1 = a ∨ c ∈ m := by
  unfold Memory.put at h
  split at h
  · exact Memory.mem_insert h
  · exact .inr h

theorem Memory.mem_write {a : Nat} {bs : Bytes} {m : Memory} {c : Host.Cell} (h : c ∈ m.write a bs) :
    (a ≤ c.1 ∧ c.1 < a + bs.length) ∨ c ∈ m := by
  induction bs generalizing m a with
  | nil => exact .inr h
  | cons b bs ih =>
    simp only [List.length_cons]
    obtain h | h := ih h
    · exact .inl (by omega)
    · obtain h | h := Memory.mem_put h
      · exact .inl (by omega)
      · exact .inr h

theorem Memory.mem_drawOver {free : Nat → Bool} {d n a : Nat} {m : Memory} {c : Host.Cell}
    (h : c ∈ Memory.drawOver free d n a m) : free c.1 = true ∨ c ∈ m := by
  induction n generalizing m a d with
  | zero => exact .inr h
  | succ n ih =>
    rw [Memory.drawOver] at h
    obtain h | h := ih h
    · exact .inl h
    · split at h
      · obtain h | h := Memory.mem_put h
        · exact .inl (h ▸ by assumption)
        · exact .inr h
      · exact .inr h

/-! ## Reading a range -/

@[simp] theorem Memory.read_length (m : Memory) (a n : Nat) : (m.read a n).length = n := by simp [Memory.read]

theorem Memory.read_getElem? (m : Memory) (a n i : Nat) :
    (m.read a n)[i]? = if i < n then some (m.get (a + i)) else none := by
  by_cases h : i < n
  · rw [if_pos h, Memory.read, List.getElem?_map, List.getElem?_range h]; rfl
  · rw [if_neg h, Memory.read, List.getElem?_map, List.getElem?_eq_none (by simpa using h)]; rfl

/-- Two memories that agree on a range give the same bytes. -/
theorem Memory.read_congr {m m' : Memory} {a n : Nat} (h : ∀ x, a ≤ x → x < a + n → m.get x = m'.get x) :
    m.read a n = m'.read a n := by
  unfold Memory.read
  apply List.map_congr_left
  intro i hi
  exact h _ (by omega) (by have := List.mem_range.1 hi; omega)

end Sys2Proof.Machine
end

