-- ==== Sys2Proof/Laws/State.lean ====
section
/-! SUPPORT. What each update of State leaves in each field, true by computation, so that no proof unfolds a record
update. -/

namespace Sys2Proof.Machine

/-! ## Successful completion -/

@[simp] theorem succeed_cfg (l : Latch) (r : Result) (s : State) : (succeed l r s).cfg = s.cfg := rfl
@[simp] theorem succeed_phase (l : Latch) (r : Result) (s : State) : (succeed l r s).phase = .idle := rfl
@[simp] theorem succeed_outRgba (l : Latch) (r : Result) (s : State) : (succeed l r s).outRgba = s.outRgba := rfl
@[simp] theorem succeed_irqEn (l : Latch) (r : Result) (s : State) : (succeed l r s).irqEn = s.irqEn := rfl
@[simp] theorem succeed_cmd (l : Latch) (r : Result) (s : State) : (succeed l r s).cmd = s.cmd := rfl
@[simp] theorem succeed_status (l : Latch) (r : Result) (s : State) :
    (succeed l r s).status = s.status.succeeded r.flags := rfl
@[simp] theorem succeed_srcAddr (l : Latch) (r : Result) (s : State) : (succeed l r s).srcAddr = s.srcAddr := rfl
@[simp] theorem succeed_srcLen (l : Latch) (r : Result) (s : State) : (succeed l r s).srcLen = s.srcLen := rfl
@[simp] theorem succeed_dstAddr (l : Latch) (r : Result) (s : State) : (succeed l r s).dstAddr = s.dstAddr := rfl
@[simp] theorem succeed_dstCap (l : Latch) (r : Result) (s : State) : (succeed l r s).dstCap = s.dstCap := rfl
@[simp] theorem succeed_dstLen (l : Latch) (r : Result) (s : State) :
    (succeed l r s).dstLen = BitVec.ofNat 32 r.data.length := rfl
@[simp] theorem succeed_imgW (l : Latch) (r : Result) (s : State) : (succeed l r s).imgW = s.imgW := rfl
@[simp] theorem succeed_imgH (l : Latch) (r : Result) (s : State) : (succeed l r s).imgH = s.imgH := rfl
@[simp] theorem succeed_imgCh (l : Latch) (r : Result) (s : State) : (succeed l r s).imgCh = s.imgCh := rfl
@[simp] theorem succeed_resW (l : Latch) (r : Result) (s : State) : (succeed l r s).resW = BitVec.ofNat 32 r.w := rfl
@[simp] theorem succeed_resH (l : Latch) (r : Result) (s : State) : (succeed l r s).resH = BitVec.ofNat 32 r.h := rfl
@[simp] theorem succeed_resCh (l : Latch) (r : Result) (s : State) : (succeed l r s).resCh = BitVec.ofNat 32 r.ch := rfl
@[simp] theorem succeed_candSize (l : Latch) (r : Result) (s : State) : (succeed l r s).candSize = s.candSize := rfl
@[simp] theorem succeed_work (l : Latch) (r : Result) (s : State) : (succeed l r s).work = Work.empty := rfl
@[simp] theorem succeed_mem (l : Latch) (r : Result) (s : State) :
    (succeed l r s).mem = s.mem.write l.dstAddr.toNat r.data := rfl
@[simp] theorem succeed_inputs (l : Latch) (r : Result) (s : State) : (succeed l r s).inputs = s.inputs := rfl
@[simp] theorem succeed_rdata (l : Latch) (r : Result) (s : State) : (succeed l r s).rdata = s.rdata := rfl
@[simp] theorem succeed_draws (l : Latch) (r : Result) (s : State) : (succeed l r s).draws = s.draws := rfl

/-! ## Error completion -/

@[simp] theorem failKeeping_cfg (k : ErrKind) (s : State) : (failKeeping k s).cfg = s.cfg := rfl
@[simp] theorem failKeeping_phase (k : ErrKind) (s : State) : (failKeeping k s).phase = .idle := rfl
@[simp] theorem failKeeping_outRgba (k : ErrKind) (s : State) : (failKeeping k s).outRgba = s.outRgba := rfl
@[simp] theorem failKeeping_irqEn (k : ErrKind) (s : State) : (failKeeping k s).irqEn = s.irqEn := rfl
@[simp] theorem failKeeping_cmd (k : ErrKind) (s : State) : (failKeeping k s).cmd = s.cmd := rfl
@[simp] theorem failKeeping_status (k : ErrKind) (s : State) : (failKeeping k s).status = s.status.failed k := rfl
@[simp] theorem failKeeping_srcAddr (k : ErrKind) (s : State) : (failKeeping k s).srcAddr = s.srcAddr := rfl
@[simp] theorem failKeeping_srcLen (k : ErrKind) (s : State) : (failKeeping k s).srcLen = s.srcLen := rfl
@[simp] theorem failKeeping_dstAddr (k : ErrKind) (s : State) : (failKeeping k s).dstAddr = s.dstAddr := rfl
@[simp] theorem failKeeping_dstCap (k : ErrKind) (s : State) : (failKeeping k s).dstCap = s.dstCap := rfl
@[simp] theorem failKeeping_dstLen (k : ErrKind) (s : State) : (failKeeping k s).dstLen = 0 := rfl
@[simp] theorem failKeeping_imgW (k : ErrKind) (s : State) : (failKeeping k s).imgW = s.imgW := rfl
@[simp] theorem failKeeping_imgH (k : ErrKind) (s : State) : (failKeeping k s).imgH = s.imgH := rfl
@[simp] theorem failKeeping_imgCh (k : ErrKind) (s : State) : (failKeeping k s).imgCh = s.imgCh := rfl
@[simp] theorem failKeeping_resW (k : ErrKind) (s : State) : (failKeeping k s).resW = 0 := rfl
@[simp] theorem failKeeping_resH (k : ErrKind) (s : State) : (failKeeping k s).resH = 0 := rfl
@[simp] theorem failKeeping_resCh (k : ErrKind) (s : State) : (failKeeping k s).resCh = 0 := rfl
@[simp] theorem failKeeping_candSize (k : ErrKind) (s : State) : (failKeeping k s).candSize = s.candSize := rfl
@[simp] theorem failKeeping_work (k : ErrKind) (s : State) : (failKeeping k s).work = Work.empty := rfl
@[simp] theorem failKeeping_mem (k : ErrKind) (s : State) : (failKeeping k s).mem = s.mem := rfl
@[simp] theorem failKeeping_inputs (k : ErrKind) (s : State) : (failKeeping k s).inputs = s.inputs := rfl
@[simp] theorem failKeeping_rdata (k : ErrKind) (s : State) : (failKeeping k s).rdata = s.rdata := rfl
@[simp] theorem failKeeping_draws (k : ErrKind) (s : State) : (failKeeping k s).draws = s.draws := rfl

@[simp] theorem drawWindow_cfg (l : Latch) (s : State) : (drawWindow l s).cfg = s.cfg := rfl
@[simp] theorem drawWindow_phase (l : Latch) (s : State) : (drawWindow l s).phase = s.phase := rfl
@[simp] theorem drawWindow_outRgba (l : Latch) (s : State) : (drawWindow l s).outRgba = s.outRgba := rfl
@[simp] theorem drawWindow_irqEn (l : Latch) (s : State) : (drawWindow l s).irqEn = s.irqEn := rfl
@[simp] theorem drawWindow_cmd (l : Latch) (s : State) : (drawWindow l s).cmd = s.cmd := rfl
@[simp] theorem drawWindow_status (l : Latch) (s : State) : (drawWindow l s).status = s.status := rfl
@[simp] theorem drawWindow_srcAddr (l : Latch) (s : State) : (drawWindow l s).srcAddr = s.srcAddr := rfl
@[simp] theorem drawWindow_srcLen (l : Latch) (s : State) : (drawWindow l s).srcLen = s.srcLen := rfl
@[simp] theorem drawWindow_dstAddr (l : Latch) (s : State) : (drawWindow l s).dstAddr = s.dstAddr := rfl
@[simp] theorem drawWindow_dstCap (l : Latch) (s : State) : (drawWindow l s).dstCap = s.dstCap := rfl
@[simp] theorem drawWindow_dstLen (l : Latch) (s : State) : (drawWindow l s).dstLen = s.dstLen := rfl
@[simp] theorem drawWindow_imgW (l : Latch) (s : State) : (drawWindow l s).imgW = s.imgW := rfl
@[simp] theorem drawWindow_imgH (l : Latch) (s : State) : (drawWindow l s).imgH = s.imgH := rfl
@[simp] theorem drawWindow_imgCh (l : Latch) (s : State) : (drawWindow l s).imgCh = s.imgCh := rfl
@[simp] theorem drawWindow_resW (l : Latch) (s : State) : (drawWindow l s).resW = s.resW := rfl
@[simp] theorem drawWindow_resH (l : Latch) (s : State) : (drawWindow l s).resH = s.resH := rfl
@[simp] theorem drawWindow_resCh (l : Latch) (s : State) : (drawWindow l s).resCh = s.resCh := rfl
@[simp] theorem drawWindow_candSize (l : Latch) (s : State) : (drawWindow l s).candSize = s.candSize := rfl
@[simp] theorem drawWindow_work (l : Latch) (s : State) : (drawWindow l s).work = s.work := rfl
@[simp] theorem drawWindow_mem (l : Latch) (s : State) :
    (drawWindow l s).mem = Memory.drawOver (holdsMemory s.cfg) s.draws l.dstCap.toNat l.dstAddr.toNat s.mem := rfl
@[simp] theorem drawWindow_inputs (l : Latch) (s : State) : (drawWindow l s).inputs = s.inputs := rfl
@[simp] theorem drawWindow_rdata (l : Latch) (s : State) : (drawWindow l s).rdata = s.rdata := rfl
@[simp] theorem drawWindow_draws (l : Latch) (s : State) : (drawWindow l s).draws = s.draws + l.dstCap.toNat := rfl

@[simp] theorem failDrawing_cfg (l : Latch) (k : ErrKind) (s : State) : (failDrawing l k s).cfg = s.cfg := rfl
@[simp] theorem failDrawing_phase (l : Latch) (k : ErrKind) (s : State) : (failDrawing l k s).phase = .idle := rfl
@[simp] theorem failDrawing_outRgba (l : Latch) (k : ErrKind) (s : State) :
    (failDrawing l k s).outRgba = s.outRgba := rfl
@[simp] theorem failDrawing_irqEn (l : Latch) (k : ErrKind) (s : State) : (failDrawing l k s).irqEn = s.irqEn := rfl
@[simp] theorem failDrawing_cmd (l : Latch) (k : ErrKind) (s : State) : (failDrawing l k s).cmd = s.cmd := rfl
@[simp] theorem failDrawing_status (l : Latch) (k : ErrKind) (s : State) :
    (failDrawing l k s).status = s.status.failed k := rfl
@[simp] theorem failDrawing_srcAddr (l : Latch) (k : ErrKind) (s : State) :
    (failDrawing l k s).srcAddr = s.srcAddr := rfl
@[simp] theorem failDrawing_srcLen (l : Latch) (k : ErrKind) (s : State) : (failDrawing l k s).srcLen = s.srcLen := rfl
@[simp] theorem failDrawing_dstAddr (l : Latch) (k : ErrKind) (s : State) :
    (failDrawing l k s).dstAddr = s.dstAddr := rfl
@[simp] theorem failDrawing_dstCap (l : Latch) (k : ErrKind) (s : State) : (failDrawing l k s).dstCap = s.dstCap := rfl
@[simp] theorem failDrawing_dstLen (l : Latch) (k : ErrKind) (s : State) : (failDrawing l k s).dstLen = 0 := rfl
@[simp] theorem failDrawing_imgW (l : Latch) (k : ErrKind) (s : State) : (failDrawing l k s).imgW = s.imgW := rfl
@[simp] theorem failDrawing_imgH (l : Latch) (k : ErrKind) (s : State) : (failDrawing l k s).imgH = s.imgH := rfl
@[simp] theorem failDrawing_imgCh (l : Latch) (k : ErrKind) (s : State) : (failDrawing l k s).imgCh = s.imgCh := rfl
@[simp] theorem failDrawing_resW (l : Latch) (k : ErrKind) (s : State) : (failDrawing l k s).resW = 0 := rfl
@[simp] theorem failDrawing_resH (l : Latch) (k : ErrKind) (s : State) : (failDrawing l k s).resH = 0 := rfl
@[simp] theorem failDrawing_resCh (l : Latch) (k : ErrKind) (s : State) : (failDrawing l k s).resCh = 0 := rfl
@[simp] theorem failDrawing_candSize (l : Latch) (k : ErrKind) (s : State) :
    (failDrawing l k s).candSize = s.candSize := rfl
@[simp] theorem failDrawing_work (l : Latch) (k : ErrKind) (s : State) : (failDrawing l k s).work = Work.empty := rfl
@[simp] theorem failDrawing_mem (l : Latch) (k : ErrKind) (s : State) :
    (failDrawing l k s).mem = Memory.drawOver (holdsMemory s.cfg) s.draws l.dstCap.toNat l.dstAddr.toNat s.mem := rfl
@[simp] theorem failDrawing_inputs (l : Latch) (k : ErrKind) (s : State) : (failDrawing l k s).inputs = s.inputs := rfl
@[simp] theorem failDrawing_rdata (l : Latch) (k : ErrKind) (s : State) : (failDrawing l k s).rdata = s.rdata := rfl
@[simp] theorem failDrawing_draws (l : Latch) (k : ErrKind) (s : State) :
    (failDrawing l k s).draws = s.draws + l.dstCap.toNat := rfl

/-! ## Completion by a draw -/

@[simp] theorem completeDrawn_cfg (l : Latch) (s : State) : (completeDrawn l s).cfg = s.cfg := rfl
@[simp] theorem completeDrawn_phase (l : Latch) (s : State) : (completeDrawn l s).phase = .idle := rfl
@[simp] theorem completeDrawn_outRgba (l : Latch) (s : State) : (completeDrawn l s).outRgba = s.outRgba := rfl
@[simp] theorem completeDrawn_irqEn (l : Latch) (s : State) : (completeDrawn l s).irqEn = s.irqEn := rfl
@[simp] theorem completeDrawn_cmd (l : Latch) (s : State) : (completeDrawn l s).cmd = s.cmd := rfl
@[simp] theorem completeDrawn_status (l : Latch) (s : State) :
    (completeDrawn l s).status = s.status.drawn (Config.freeWord s.draws) := rfl
@[simp] theorem completeDrawn_srcAddr (l : Latch) (s : State) : (completeDrawn l s).srcAddr = s.srcAddr := rfl
@[simp] theorem completeDrawn_srcLen (l : Latch) (s : State) : (completeDrawn l s).srcLen = s.srcLen := rfl
@[simp] theorem completeDrawn_dstAddr (l : Latch) (s : State) : (completeDrawn l s).dstAddr = s.dstAddr := rfl
@[simp] theorem completeDrawn_dstCap (l : Latch) (s : State) : (completeDrawn l s).dstCap = s.dstCap := rfl
@[simp] theorem completeDrawn_dstLen (l : Latch) (s : State) :
    (completeDrawn l s).dstLen = Config.freeWord (s.draws + 1) := rfl
@[simp] theorem completeDrawn_imgW (l : Latch) (s : State) : (completeDrawn l s).imgW = s.imgW := rfl
@[simp] theorem completeDrawn_imgH (l : Latch) (s : State) : (completeDrawn l s).imgH = s.imgH := rfl
@[simp] theorem completeDrawn_imgCh (l : Latch) (s : State) : (completeDrawn l s).imgCh = s.imgCh := rfl
@[simp] theorem completeDrawn_resW (l : Latch) (s : State) :
    (completeDrawn l s).resW = Config.freeWord (s.draws + 2) := rfl
@[simp] theorem completeDrawn_resH (l : Latch) (s : State) :
    (completeDrawn l s).resH = Config.freeWord (s.draws + 3) := rfl
@[simp] theorem completeDrawn_resCh (l : Latch) (s : State) :
    (completeDrawn l s).resCh = Config.freeWord (s.draws + 4) := rfl
@[simp] theorem completeDrawn_candSize (l : Latch) (s : State) :
    (completeDrawn l s).candSize = Vector.ofFn fun i : Fin 11 => Config.freeWord (s.draws + 5 + i.val) := rfl
@[simp] theorem completeDrawn_work (l : Latch) (s : State) : (completeDrawn l s).work = Work.empty := rfl
@[simp] theorem completeDrawn_mem (l : Latch) (s : State) :
    (completeDrawn l s).mem = Memory.drawOver (holdsMemory s.cfg) (s.draws + drawnRegisters) l.dstCap.toNat l.dstAddr.toNat s.mem := rfl
@[simp] theorem completeDrawn_inputs (l : Latch) (s : State) : (completeDrawn l s).inputs = s.inputs := rfl
@[simp] theorem completeDrawn_rdata (l : Latch) (s : State) : (completeDrawn l s).rdata = s.rdata := rfl
@[simp] theorem completeDrawn_draws (l : Latch) (s : State) :
    (completeDrawn l s).draws = s.draws + drawnRegisters + l.dstCap.toNat := rfl

/-! ## CAND_SIZE -/

@[simp] theorem fillCand_cfg (c : Option (Vector Word 11)) (s : State) :
    (fillCand c s).cfg = s.cfg := by cases c <;> rfl
@[simp] theorem fillCand_phase (c : Option (Vector Word 11)) (s : State) :
    (fillCand c s).phase = s.phase := by cases c <;> rfl
@[simp] theorem fillCand_outRgba (c : Option (Vector Word 11)) (s : State) :
    (fillCand c s).outRgba = s.outRgba := by cases c <;> rfl
@[simp] theorem fillCand_irqEn (c : Option (Vector Word 11)) (s : State) :
    (fillCand c s).irqEn = s.irqEn := by cases c <;> rfl
@[simp] theorem fillCand_cmd (c : Option (Vector Word 11)) (s : State) :
    (fillCand c s).cmd = s.cmd := by cases c <;> rfl
@[simp] theorem fillCand_status (c : Option (Vector Word 11)) (s : State) :
    (fillCand c s).status = s.status := by cases c <;> rfl
@[simp] theorem fillCand_srcAddr (c : Option (Vector Word 11)) (s : State) :
    (fillCand c s).srcAddr = s.srcAddr := by cases c <;> rfl
@[simp] theorem fillCand_srcLen (c : Option (Vector Word 11)) (s : State) :
    (fillCand c s).srcLen = s.srcLen := by cases c <;> rfl
@[simp] theorem fillCand_dstAddr (c : Option (Vector Word 11)) (s : State) :
    (fillCand c s).dstAddr = s.dstAddr := by cases c <;> rfl
@[simp] theorem fillCand_dstCap (c : Option (Vector Word 11)) (s : State) :
    (fillCand c s).dstCap = s.dstCap := by cases c <;> rfl
@[simp] theorem fillCand_dstLen (c : Option (Vector Word 11)) (s : State) :
    (fillCand c s).dstLen = s.dstLen := by cases c <;> rfl
@[simp] theorem fillCand_imgW (c : Option (Vector Word 11)) (s : State) :
    (fillCand c s).imgW = s.imgW := by cases c <;> rfl
@[simp] theorem fillCand_imgH (c : Option (Vector Word 11)) (s : State) :
    (fillCand c s).imgH = s.imgH := by cases c <;> rfl
@[simp] theorem fillCand_imgCh (c : Option (Vector Word 11)) (s : State) :
    (fillCand c s).imgCh = s.imgCh := by cases c <;> rfl
@[simp] theorem fillCand_resW (c : Option (Vector Word 11)) (s : State) :
    (fillCand c s).resW = s.resW := by cases c <;> rfl
@[simp] theorem fillCand_resH (c : Option (Vector Word 11)) (s : State) :
    (fillCand c s).resH = s.resH := by cases c <;> rfl
@[simp] theorem fillCand_resCh (c : Option (Vector Word 11)) (s : State) :
    (fillCand c s).resCh = s.resCh := by cases c <;> rfl
@[simp] theorem fillCand_candSize (c : Option (Vector Word 11)) (s : State) :
    (fillCand c s).candSize = c.getD s.candSize := by cases c <;> rfl
@[simp] theorem fillCand_work (c : Option (Vector Word 11)) (s : State) :
    (fillCand c s).work = s.work := by cases c <;> rfl
@[simp] theorem fillCand_mem (c : Option (Vector Word 11)) (s : State) :
    (fillCand c s).mem = s.mem := by cases c <;> rfl
@[simp] theorem fillCand_inputs (c : Option (Vector Word 11)) (s : State) :
    (fillCand c s).inputs = s.inputs := by cases c <;> rfl
@[simp] theorem fillCand_rdata (c : Option (Vector Word 11)) (s : State) :
    (fillCand c s).rdata = s.rdata := by cases c <;> rfl
@[simp] theorem fillCand_draws (c : Option (Vector Word 11)) (s : State) :
    (fillCand c s).draws = s.draws := by cases c <;> rfl

/-! ## Acceptance -/

@[simp] theorem accept_cfg (w : Word) (s : State) : (accept w s).cfg = s.cfg := rfl
@[simp] theorem accept_phase (w : Word) (s : State) : (accept w s).phase = .busy (latch w s) false := rfl
@[simp] theorem accept_outRgba (w : Word) (s : State) : (accept w s).outRgba = s.outRgba := rfl
@[simp] theorem accept_irqEn (w : Word) (s : State) : (accept w s).irqEn = s.irqEn := rfl
@[simp] theorem accept_cmd (w : Word) (s : State) : (accept w s).cmd = w := rfl
@[simp] theorem accept_status (w : Word) (s : State) : (accept w s).status = s.status.accepted := rfl
@[simp] theorem accept_srcAddr (w : Word) (s : State) : (accept w s).srcAddr = s.srcAddr := rfl
@[simp] theorem accept_srcLen (w : Word) (s : State) : (accept w s).srcLen = s.srcLen := rfl
@[simp] theorem accept_dstAddr (w : Word) (s : State) : (accept w s).dstAddr = s.dstAddr := rfl
@[simp] theorem accept_dstCap (w : Word) (s : State) : (accept w s).dstCap = s.dstCap := rfl
@[simp] theorem accept_dstLen (w : Word) (s : State) : (accept w s).dstLen = s.dstLen := rfl
@[simp] theorem accept_imgW (w : Word) (s : State) : (accept w s).imgW = s.imgW := rfl
@[simp] theorem accept_imgH (w : Word) (s : State) : (accept w s).imgH = s.imgH := rfl
@[simp] theorem accept_imgCh (w : Word) (s : State) : (accept w s).imgCh = s.imgCh := rfl
@[simp] theorem accept_resW (w : Word) (s : State) : (accept w s).resW = s.resW := rfl
@[simp] theorem accept_resH (w : Word) (s : State) : (accept w s).resH = s.resH := rfl
@[simp] theorem accept_resCh (w : Word) (s : State) : (accept w s).resCh = s.resCh := rfl
@[simp] theorem accept_candSize (w : Word) (s : State) :
    (accept w s).candSize = if isEncodeWord w then candNone else s.candSize := rfl
@[simp] theorem accept_work (w : Word) (s : State) : (accept w s).work = startWork (latch w s) s := rfl
@[simp] theorem accept_mem (w : Word) (s : State) : (accept w s).mem = s.mem := rfl
@[simp] theorem accept_inputs (w : Word) (s : State) : (accept w s).inputs = s.inputs := rfl
@[simp] theorem accept_rdata (w : Word) (s : State) : (accept w s).rdata = s.rdata := rfl
@[simp] theorem accept_draws (w : Word) (s : State) : (accept w s).draws = s.draws := rfl

/-! ## Reset -/

@[simp] theorem drawAbandoned_cfg (l : Latch) (s : State) : (drawAbandoned l s).cfg = s.cfg := rfl
@[simp] theorem drawAbandoned_phase (l : Latch) (s : State) : (drawAbandoned l s).phase = s.phase := rfl
@[simp] theorem drawAbandoned_outRgba (l : Latch) (s : State) : (drawAbandoned l s).outRgba = s.outRgba := rfl
@[simp] theorem drawAbandoned_irqEn (l : Latch) (s : State) : (drawAbandoned l s).irqEn = s.irqEn := rfl
@[simp] theorem drawAbandoned_cmd (l : Latch) (s : State) : (drawAbandoned l s).cmd = s.cmd := rfl
@[simp] theorem drawAbandoned_status (l : Latch) (s : State) : (drawAbandoned l s).status = s.status := rfl
@[simp] theorem drawAbandoned_srcAddr (l : Latch) (s : State) : (drawAbandoned l s).srcAddr = s.srcAddr := rfl
@[simp] theorem drawAbandoned_srcLen (l : Latch) (s : State) : (drawAbandoned l s).srcLen = s.srcLen := rfl
@[simp] theorem drawAbandoned_dstAddr (l : Latch) (s : State) : (drawAbandoned l s).dstAddr = s.dstAddr := rfl
@[simp] theorem drawAbandoned_dstCap (l : Latch) (s : State) : (drawAbandoned l s).dstCap = s.dstCap := rfl
@[simp] theorem drawAbandoned_dstLen (l : Latch) (s : State) : (drawAbandoned l s).dstLen = s.dstLen := rfl
@[simp] theorem drawAbandoned_imgW (l : Latch) (s : State) : (drawAbandoned l s).imgW = s.imgW := rfl
@[simp] theorem drawAbandoned_imgH (l : Latch) (s : State) : (drawAbandoned l s).imgH = s.imgH := rfl
@[simp] theorem drawAbandoned_imgCh (l : Latch) (s : State) : (drawAbandoned l s).imgCh = s.imgCh := rfl
@[simp] theorem drawAbandoned_resW (l : Latch) (s : State) : (drawAbandoned l s).resW = s.resW := rfl
@[simp] theorem drawAbandoned_resH (l : Latch) (s : State) : (drawAbandoned l s).resH = s.resH := rfl
@[simp] theorem drawAbandoned_resCh (l : Latch) (s : State) : (drawAbandoned l s).resCh = s.resCh := rfl
@[simp] theorem drawAbandoned_candSize (l : Latch) (s : State) : (drawAbandoned l s).candSize = s.candSize := rfl
@[simp] theorem drawAbandoned_work (l : Latch) (s : State) : (drawAbandoned l s).work = s.work := rfl
@[simp] theorem drawAbandoned_inputs (l : Latch) (s : State) : (drawAbandoned l s).inputs = s.inputs := rfl
@[simp] theorem drawAbandoned_rdata (l : Latch) (s : State) : (drawAbandoned l s).rdata = s.rdata := rfl
@[simp] theorem drawAbandoned_mem (l : Latch) (s : State) :
    (drawAbandoned l s).mem = Memory.drawOver (fun a => holdsMemory s.cfg a && !l.inSrc a) s.draws l.dstCap.toNat
      l.dstAddr.toNat s.mem := rfl
@[simp] theorem drawAbandoned_draws (l : Latch) (s : State) :
    (drawAbandoned l s).draws = s.draws + l.dstCap.toNat := rfl

@[simp] theorem doReset_cfg (s : State) : (doReset s).cfg = s.cfg := by unfold doReset; cases s.phase <;> rfl
@[simp] theorem doReset_phase (s : State) :
    (doReset s).phase = State.reset.phase := by unfold doReset; cases s.phase <;> rfl
@[simp] theorem doReset_outRgba (s : State) :
    (doReset s).outRgba = State.reset.outRgba := by unfold doReset; cases s.phase <;> rfl
@[simp] theorem doReset_irqEn (s : State) :
    (doReset s).irqEn = State.reset.irqEn := by unfold doReset; cases s.phase <;> rfl
@[simp] theorem doReset_cmd (s : State) : (doReset s).cmd = State.reset.cmd := by unfold doReset; cases s.phase <;> rfl
@[simp] theorem doReset_status (s : State) :
    (doReset s).status = State.reset.status := by unfold doReset; cases s.phase <;> rfl
@[simp] theorem doReset_srcAddr (s : State) :
    (doReset s).srcAddr = State.reset.srcAddr := by unfold doReset; cases s.phase <;> rfl
@[simp] theorem doReset_srcLen (s : State) :
    (doReset s).srcLen = State.reset.srcLen := by unfold doReset; cases s.phase <;> rfl
@[simp] theorem doReset_dstAddr (s : State) :
    (doReset s).dstAddr = State.reset.dstAddr := by unfold doReset; cases s.phase <;> rfl
@[simp] theorem doReset_dstCap (s : State) :
    (doReset s).dstCap = State.reset.dstCap := by unfold doReset; cases s.phase <;> rfl
@[simp] theorem doReset_dstLen (s : State) :
    (doReset s).dstLen = State.reset.dstLen := by unfold doReset; cases s.phase <;> rfl
@[simp] theorem doReset_imgW (s : State) :
    (doReset s).imgW = State.reset.imgW := by unfold doReset; cases s.phase <;> rfl
@[simp] theorem doReset_imgH (s : State) :
    (doReset s).imgH = State.reset.imgH := by unfold doReset; cases s.phase <;> rfl
@[simp] theorem doReset_imgCh (s : State) :
    (doReset s).imgCh = State.reset.imgCh := by unfold doReset; cases s.phase <;> rfl
@[simp] theorem doReset_resW (s : State) :
    (doReset s).resW = State.reset.resW := by unfold doReset; cases s.phase <;> rfl
@[simp] theorem doReset_resH (s : State) :
    (doReset s).resH = State.reset.resH := by unfold doReset; cases s.phase <;> rfl
@[simp] theorem doReset_resCh (s : State) :
    (doReset s).resCh = State.reset.resCh := by unfold doReset; cases s.phase <;> rfl
@[simp] theorem doReset_candSize (s : State) :
    (doReset s).candSize = State.reset.candSize := by unfold doReset; cases s.phase <;> rfl
@[simp] theorem doReset_work (s : State) :
    (doReset s).work = State.reset.work := by unfold doReset; cases s.phase <;> rfl
@[simp] theorem doReset_inputs (s : State) : (doReset s).inputs = s.inputs := by unfold doReset; cases s.phase <;> rfl
@[simp] theorem doReset_rdata (s : State) : (doReset s).rdata = s.rdata := by unfold doReset; cases s.phase <;> rfl

@[simp] theorem doReset_mem_idle (s : State) (h : s.phase = .idle) : (doReset s).mem = s.mem := by
  simp [doReset, h]
@[simp] theorem doReset_mem_busy (s : State) (l : Latch) (t : Bool) (h : s.phase = .busy l t) :
    (doReset s).mem = Memory.drawOver (fun a => holdsMemory s.cfg a && !l.inSrc a) s.draws l.dstCap.toNat
      l.dstAddr.toNat s.mem := by
  simp [doReset, h]

/-! ## Host accesses -/

@[simp] theorem storeBytes_cfg (a : Nat) (d : Bytes) (s : State) : (storeBytes a d s).cfg = s.cfg := rfl
@[simp] theorem storeBytes_phase (a : Nat) (d : Bytes) (s : State) :
    (storeBytes a d s).phase = s.phase.afterWrite a d.length := rfl
@[simp] theorem storeBytes_outRgba (a : Nat) (d : Bytes) (s : State) : (storeBytes a d s).outRgba = s.outRgba := rfl
@[simp] theorem storeBytes_irqEn (a : Nat) (d : Bytes) (s : State) : (storeBytes a d s).irqEn = s.irqEn := rfl
@[simp] theorem storeBytes_cmd (a : Nat) (d : Bytes) (s : State) : (storeBytes a d s).cmd = s.cmd := rfl
@[simp] theorem storeBytes_status (a : Nat) (d : Bytes) (s : State) : (storeBytes a d s).status = s.status := rfl
@[simp] theorem storeBytes_srcAddr (a : Nat) (d : Bytes) (s : State) : (storeBytes a d s).srcAddr = s.srcAddr := rfl
@[simp] theorem storeBytes_srcLen (a : Nat) (d : Bytes) (s : State) : (storeBytes a d s).srcLen = s.srcLen := rfl
@[simp] theorem storeBytes_dstAddr (a : Nat) (d : Bytes) (s : State) : (storeBytes a d s).dstAddr = s.dstAddr := rfl
@[simp] theorem storeBytes_dstCap (a : Nat) (d : Bytes) (s : State) : (storeBytes a d s).dstCap = s.dstCap := rfl
@[simp] theorem storeBytes_dstLen (a : Nat) (d : Bytes) (s : State) : (storeBytes a d s).dstLen = s.dstLen := rfl
@[simp] theorem storeBytes_imgW (a : Nat) (d : Bytes) (s : State) : (storeBytes a d s).imgW = s.imgW := rfl
@[simp] theorem storeBytes_imgH (a : Nat) (d : Bytes) (s : State) : (storeBytes a d s).imgH = s.imgH := rfl
@[simp] theorem storeBytes_imgCh (a : Nat) (d : Bytes) (s : State) : (storeBytes a d s).imgCh = s.imgCh := rfl
@[simp] theorem storeBytes_resW (a : Nat) (d : Bytes) (s : State) : (storeBytes a d s).resW = s.resW := rfl
@[simp] theorem storeBytes_resH (a : Nat) (d : Bytes) (s : State) : (storeBytes a d s).resH = s.resH := rfl
@[simp] theorem storeBytes_resCh (a : Nat) (d : Bytes) (s : State) : (storeBytes a d s).resCh = s.resCh := rfl
@[simp] theorem storeBytes_candSize (a : Nat) (d : Bytes) (s : State) : (storeBytes a d s).candSize = s.candSize := rfl
@[simp] theorem storeBytes_work (a : Nat) (d : Bytes) (s : State) : (storeBytes a d s).work = s.work := rfl
@[simp] theorem storeBytes_mem (a : Nat) (d : Bytes) (s : State) : (storeBytes a d s).mem = s.mem.write a d := rfl
@[simp] theorem storeBytes_inputs (a : Nat) (d : Bytes) (s : State) : (storeBytes a d s).inputs = s.inputs := rfl
@[simp] theorem storeBytes_rdata (a : Nat) (d : Bytes) (s : State) : (storeBytes a d s).rdata = s.rdata := rfl
@[simp] theorem storeBytes_draws (a : Nat) (d : Bytes) (s : State) : (storeBytes a d s).draws = s.draws := rfl

@[simp] theorem loadBytes_cfg (a n : Nat) (s : State) : (loadBytes a n s).cfg = s.cfg := rfl
@[simp] theorem loadBytes_phase (a n : Nat) (s : State) : (loadBytes a n s).phase = s.phase := rfl
@[simp] theorem loadBytes_outRgba (a n : Nat) (s : State) : (loadBytes a n s).outRgba = s.outRgba := rfl
@[simp] theorem loadBytes_irqEn (a n : Nat) (s : State) : (loadBytes a n s).irqEn = s.irqEn := rfl
@[simp] theorem loadBytes_cmd (a n : Nat) (s : State) : (loadBytes a n s).cmd = s.cmd := rfl
@[simp] theorem loadBytes_status (a n : Nat) (s : State) : (loadBytes a n s).status = s.status := rfl
@[simp] theorem loadBytes_srcAddr (a n : Nat) (s : State) : (loadBytes a n s).srcAddr = s.srcAddr := rfl
@[simp] theorem loadBytes_srcLen (a n : Nat) (s : State) : (loadBytes a n s).srcLen = s.srcLen := rfl
@[simp] theorem loadBytes_dstAddr (a n : Nat) (s : State) : (loadBytes a n s).dstAddr = s.dstAddr := rfl
@[simp] theorem loadBytes_dstCap (a n : Nat) (s : State) : (loadBytes a n s).dstCap = s.dstCap := rfl
@[simp] theorem loadBytes_dstLen (a n : Nat) (s : State) : (loadBytes a n s).dstLen = s.dstLen := rfl
@[simp] theorem loadBytes_imgW (a n : Nat) (s : State) : (loadBytes a n s).imgW = s.imgW := rfl
@[simp] theorem loadBytes_imgH (a n : Nat) (s : State) : (loadBytes a n s).imgH = s.imgH := rfl
@[simp] theorem loadBytes_imgCh (a n : Nat) (s : State) : (loadBytes a n s).imgCh = s.imgCh := rfl
@[simp] theorem loadBytes_resW (a n : Nat) (s : State) : (loadBytes a n s).resW = s.resW := rfl
@[simp] theorem loadBytes_resH (a n : Nat) (s : State) : (loadBytes a n s).resH = s.resH := rfl
@[simp] theorem loadBytes_resCh (a n : Nat) (s : State) : (loadBytes a n s).resCh = s.resCh := rfl
@[simp] theorem loadBytes_candSize (a n : Nat) (s : State) : (loadBytes a n s).candSize = s.candSize := rfl
@[simp] theorem loadBytes_work (a n : Nat) (s : State) : (loadBytes a n s).work = s.work := rfl
@[simp] theorem loadBytes_mem (a n : Nat) (s : State) : (loadBytes a n s).mem = s.mem := rfl
@[simp] theorem loadBytes_inputs (a n : Nat) (s : State) : (loadBytes a n s).inputs = s.inputs := rfl
@[simp] theorem loadBytes_rdata (a n : Nat) (s : State) :
    (loadBytes a n s).rdata = hostBytes s.phase s.mem n s.draws a := rfl
@[simp] theorem loadBytes_draws (a n : Nat) (s : State) : (loadBytes a n s).draws = s.draws + n := rfl

@[simp] theorem writeStatus_cfg (v : Word) (s : State) : (writeStatus v s).cfg = s.cfg := rfl
@[simp] theorem writeStatus_phase (v : Word) (s : State) : (writeStatus v s).phase = s.phase := rfl
@[simp] theorem writeStatus_outRgba (v : Word) (s : State) : (writeStatus v s).outRgba = s.outRgba := rfl
@[simp] theorem writeStatus_irqEn (v : Word) (s : State) : (writeStatus v s).irqEn = s.irqEn := rfl
@[simp] theorem writeStatus_cmd (v : Word) (s : State) : (writeStatus v s).cmd = s.cmd := rfl
@[simp] theorem writeStatus_status (v : Word) (s : State) : (writeStatus v s).status = s.status.writeOneToClear v := rfl
@[simp] theorem writeStatus_srcAddr (v : Word) (s : State) : (writeStatus v s).srcAddr = s.srcAddr := rfl
@[simp] theorem writeStatus_srcLen (v : Word) (s : State) : (writeStatus v s).srcLen = s.srcLen := rfl
@[simp] theorem writeStatus_dstAddr (v : Word) (s : State) : (writeStatus v s).dstAddr = s.dstAddr := rfl
@[simp] theorem writeStatus_dstCap (v : Word) (s : State) : (writeStatus v s).dstCap = s.dstCap := rfl
@[simp] theorem writeStatus_dstLen (v : Word) (s : State) : (writeStatus v s).dstLen = s.dstLen := rfl
@[simp] theorem writeStatus_imgW (v : Word) (s : State) : (writeStatus v s).imgW = s.imgW := rfl
@[simp] theorem writeStatus_imgH (v : Word) (s : State) : (writeStatus v s).imgH = s.imgH := rfl
@[simp] theorem writeStatus_imgCh (v : Word) (s : State) : (writeStatus v s).imgCh = s.imgCh := rfl
@[simp] theorem writeStatus_resW (v : Word) (s : State) : (writeStatus v s).resW = s.resW := rfl
@[simp] theorem writeStatus_resH (v : Word) (s : State) : (writeStatus v s).resH = s.resH := rfl
@[simp] theorem writeStatus_resCh (v : Word) (s : State) : (writeStatus v s).resCh = s.resCh := rfl
@[simp] theorem writeStatus_candSize (v : Word) (s : State) : (writeStatus v s).candSize = s.candSize := rfl
@[simp] theorem writeStatus_work (v : Word) (s : State) : (writeStatus v s).work = s.work := rfl
@[simp] theorem writeStatus_mem (v : Word) (s : State) : (writeStatus v s).mem = s.mem := rfl
@[simp] theorem writeStatus_inputs (v : Word) (s : State) : (writeStatus v s).inputs = s.inputs := rfl
@[simp] theorem writeStatus_rdata (v : Word) (s : State) : (writeStatus v s).rdata = s.rdata := rfl
@[simp] theorem writeStatus_draws (v : Word) (s : State) : (writeStatus v s).draws = s.draws := rfl

@[simp] theorem stageFails_cfg (k : ErrKind) (s : State) : (stageFails k s).cfg = s.cfg := rfl
@[simp] theorem stageFails_phase (k : ErrKind) (s : State) : (stageFails k s).phase = s.phase := rfl
@[simp] theorem stageFails_outRgba (k : ErrKind) (s : State) : (stageFails k s).outRgba = s.outRgba := rfl
@[simp] theorem stageFails_irqEn (k : ErrKind) (s : State) : (stageFails k s).irqEn = s.irqEn := rfl
@[simp] theorem stageFails_cmd (k : ErrKind) (s : State) : (stageFails k s).cmd = s.cmd := rfl
@[simp] theorem stageFails_status (k : ErrKind) (s : State) : (stageFails k s).status = s.status := rfl
@[simp] theorem stageFails_srcAddr (k : ErrKind) (s : State) : (stageFails k s).srcAddr = s.srcAddr := rfl
@[simp] theorem stageFails_srcLen (k : ErrKind) (s : State) : (stageFails k s).srcLen = s.srcLen := rfl
@[simp] theorem stageFails_dstAddr (k : ErrKind) (s : State) : (stageFails k s).dstAddr = s.dstAddr := rfl
@[simp] theorem stageFails_dstCap (k : ErrKind) (s : State) : (stageFails k s).dstCap = s.dstCap := rfl
@[simp] theorem stageFails_dstLen (k : ErrKind) (s : State) : (stageFails k s).dstLen = s.dstLen := rfl
@[simp] theorem stageFails_imgW (k : ErrKind) (s : State) : (stageFails k s).imgW = s.imgW := rfl
@[simp] theorem stageFails_imgH (k : ErrKind) (s : State) : (stageFails k s).imgH = s.imgH := rfl
@[simp] theorem stageFails_imgCh (k : ErrKind) (s : State) : (stageFails k s).imgCh = s.imgCh := rfl
@[simp] theorem stageFails_resW (k : ErrKind) (s : State) : (stageFails k s).resW = s.resW := rfl
@[simp] theorem stageFails_resH (k : ErrKind) (s : State) : (stageFails k s).resH = s.resH := rfl
@[simp] theorem stageFails_resCh (k : ErrKind) (s : State) : (stageFails k s).resCh = s.resCh := rfl
@[simp] theorem stageFails_candSize (k : ErrKind) (s : State) : (stageFails k s).candSize = s.candSize := rfl
@[simp] theorem stageFails_work (k : ErrKind) (s : State) :
    (stageFails k s).work = { s.work with fail := some k } := rfl
@[simp] theorem stageFails_mem (k : ErrKind) (s : State) : (stageFails k s).mem = s.mem := rfl
@[simp] theorem stageFails_inputs (k : ErrKind) (s : State) : (stageFails k s).inputs = s.inputs := rfl
@[simp] theorem stageFails_rdata (k : ErrKind) (s : State) : (stageFails k s).rdata = s.rdata := rfl
@[simp] theorem stageFails_draws (k : ErrKind) (s : State) : (stageFails k s).draws = s.draws := rfl

@[simp] theorem waitTurn_cfg (s : State) : (waitTurn s).cfg = s.cfg := by unfold waitTurn; cases s.status.done <;> rfl
@[simp] theorem waitTurn_phase (s : State) :
    (waitTurn s).phase = s.phase := by unfold waitTurn; cases s.status.done <;> rfl
@[simp] theorem waitTurn_outRgba (s : State) :
    (waitTurn s).outRgba = s.outRgba := by unfold waitTurn; cases s.status.done <;> rfl
@[simp] theorem waitTurn_irqEn (s : State) :
    (waitTurn s).irqEn = s.irqEn := by unfold waitTurn; cases s.status.done <;> rfl
@[simp] theorem waitTurn_cmd (s : State) : (waitTurn s).cmd = s.cmd := by unfold waitTurn; cases s.status.done <;> rfl
@[simp] theorem waitTurn_status (s : State) :
    (waitTurn s).status = s.status := by unfold waitTurn; cases s.status.done <;> rfl
@[simp] theorem waitTurn_srcAddr (s : State) :
    (waitTurn s).srcAddr = s.srcAddr := by unfold waitTurn; cases s.status.done <;> rfl
@[simp] theorem waitTurn_srcLen (s : State) :
    (waitTurn s).srcLen = s.srcLen := by unfold waitTurn; cases s.status.done <;> rfl
@[simp] theorem waitTurn_dstAddr (s : State) :
    (waitTurn s).dstAddr = s.dstAddr := by unfold waitTurn; cases s.status.done <;> rfl
@[simp] theorem waitTurn_dstCap (s : State) :
    (waitTurn s).dstCap = s.dstCap := by unfold waitTurn; cases s.status.done <;> rfl
@[simp] theorem waitTurn_dstLen (s : State) :
    (waitTurn s).dstLen = s.dstLen := by unfold waitTurn; cases s.status.done <;> rfl
@[simp] theorem waitTurn_imgW (s : State) :
    (waitTurn s).imgW = s.imgW := by unfold waitTurn; cases s.status.done <;> rfl
@[simp] theorem waitTurn_imgH (s : State) :
    (waitTurn s).imgH = s.imgH := by unfold waitTurn; cases s.status.done <;> rfl
@[simp] theorem waitTurn_imgCh (s : State) :
    (waitTurn s).imgCh = s.imgCh := by unfold waitTurn; cases s.status.done <;> rfl
@[simp] theorem waitTurn_resW (s : State) :
    (waitTurn s).resW = s.resW := by unfold waitTurn; cases s.status.done <;> rfl
@[simp] theorem waitTurn_resH (s : State) :
    (waitTurn s).resH = s.resH := by unfold waitTurn; cases s.status.done <;> rfl
@[simp] theorem waitTurn_resCh (s : State) :
    (waitTurn s).resCh = s.resCh := by unfold waitTurn; cases s.status.done <;> rfl
@[simp] theorem waitTurn_candSize (s : State) :
    (waitTurn s).candSize = s.candSize := by unfold waitTurn; cases s.status.done <;> rfl
@[simp] theorem waitTurn_work (s : State) :
    (waitTurn s).work = s.work := by unfold waitTurn; cases s.status.done <;> rfl
@[simp] theorem waitTurn_mem (s : State) : (waitTurn s).mem = s.mem := by unfold waitTurn; cases s.status.done <;> rfl
@[simp] theorem waitTurn_inputs (s : State) :
    (waitTurn s).inputs = if s.status.done then s.inputs else .engine :: .wait :: s.inputs := by unfold waitTurn; cases s.status.done <;> rfl
@[simp] theorem waitTurn_rdata (s : State) :
    (waitTurn s).rdata = wordBytes (readReg .status s) := by unfold waitTurn; cases s.status.done <;> rfl
@[simp] theorem waitTurn_draws (s : State) :
    (waitTurn s).draws = s.draws := by unfold waitTurn; cases s.status.done <;> rfl

/-! ## STATUS -/

@[simp] theorem Status.reset_done : (Status.reset).done = false := rfl
@[simp] theorem Status.reset_err : (Status.reset).err = false := rfl
@[simp] theorem Status.reset_drop : (Status.reset).drop = false := rfl
@[simp] theorem Status.reset_errcode : (Status.reset).errcode = 0 := rfl
@[simp] theorem Status.reset_resMethod : (Status.reset).resMethod = 0 := rfl
@[simp] theorem Status.reset_resAlpha : (Status.reset).resAlpha = false := rfl
@[simp] theorem Status.reset_padded : (Status.reset).padded = false := rfl
@[simp] theorem Status.reset_fellback : (Status.reset).fellback = false := rfl
@[simp] theorem Status.reset_palExcl : (Status.reset).palExcl = false := rfl

@[simp] theorem Status.accepted_done (st : Status) : (st.accepted).done = false := rfl
@[simp] theorem Status.accepted_err (st : Status) : (st.accepted).err = false := rfl
@[simp] theorem Status.accepted_drop (st : Status) : (st.accepted).drop = st.drop := rfl
@[simp] theorem Status.accepted_errcode (st : Status) : (st.accepted).errcode = 0 := rfl
@[simp] theorem Status.accepted_resMethod (st : Status) : (st.accepted).resMethod = 0 := rfl
@[simp] theorem Status.accepted_resAlpha (st : Status) : (st.accepted).resAlpha = false := rfl
@[simp] theorem Status.accepted_padded (st : Status) : (st.accepted).padded = false := rfl
@[simp] theorem Status.accepted_fellback (st : Status) : (st.accepted).fellback = false := rfl
@[simp] theorem Status.accepted_palExcl (st : Status) : (st.accepted).palExcl = false := rfl

@[simp] theorem Status.failed_done (st : Status) (k : ErrKind) : (st.failed k).done = true := rfl
@[simp] theorem Status.failed_err (st : Status) (k : ErrKind) : (st.failed k).err = true := rfl
@[simp] theorem Status.failed_drop (st : Status) (k : ErrKind) : (st.failed k).drop = st.drop := rfl
@[simp] theorem Status.failed_errcode (st : Status) (k : ErrKind) : (st.failed k).errcode = errCode k := rfl
@[simp] theorem Status.failed_resMethod (st : Status) (k : ErrKind) : (st.failed k).resMethod = 0 := rfl
@[simp] theorem Status.failed_resAlpha (st : Status) (k : ErrKind) : (st.failed k).resAlpha = false := rfl
@[simp] theorem Status.failed_padded (st : Status) (k : ErrKind) : (st.failed k).padded = false := rfl
@[simp] theorem Status.failed_fellback (st : Status) (k : ErrKind) : (st.failed k).fellback = false := rfl
@[simp] theorem Status.failed_palExcl (st : Status) (k : ErrKind) : (st.failed k).palExcl = false := rfl

@[simp] theorem Status.dropped_done (st : Status) : (st.dropped).done = st.done := rfl
@[simp] theorem Status.dropped_err (st : Status) : (st.dropped).err = st.err := rfl
@[simp] theorem Status.dropped_drop (st : Status) : (st.dropped).drop = true := rfl
@[simp] theorem Status.dropped_errcode (st : Status) : (st.dropped).errcode = st.errcode := rfl
@[simp] theorem Status.dropped_resMethod (st : Status) : (st.dropped).resMethod = st.resMethod := rfl
@[simp] theorem Status.dropped_resAlpha (st : Status) : (st.dropped).resAlpha = st.resAlpha := rfl
@[simp] theorem Status.dropped_padded (st : Status) : (st.dropped).padded = st.padded := rfl
@[simp] theorem Status.dropped_fellback (st : Status) : (st.dropped).fellback = st.fellback := rfl
@[simp] theorem Status.dropped_palExcl (st : Status) : (st.dropped).palExcl = st.palExcl := rfl

@[simp] theorem Status.succeeded_done (st : Status) (f : ResultFlags) : (st.succeeded f).done = true := rfl
@[simp] theorem Status.succeeded_err (st : Status) (f : ResultFlags) : (st.succeeded f).err = false := rfl
@[simp] theorem Status.succeeded_drop (st : Status) (f : ResultFlags) : (st.succeeded f).drop = st.drop := rfl
@[simp] theorem Status.succeeded_errcode (st : Status) (f : ResultFlags) : (st.succeeded f).errcode = 0 := rfl
@[simp] theorem Status.succeeded_resMethod (st : Status) (f : ResultFlags) : (st.succeeded f).resMethod = BitVec.ofNat 4 f.method := rfl
@[simp] theorem Status.succeeded_resAlpha (st : Status) (f : ResultFlags) : (st.succeeded f).resAlpha = f.alpha := rfl
@[simp] theorem Status.succeeded_padded (st : Status) (f : ResultFlags) : (st.succeeded f).padded = f.padded := rfl
@[simp] theorem Status.succeeded_fellback (st : Status) (f : ResultFlags) : (st.succeeded f).fellback = f.fellback := rfl
@[simp] theorem Status.succeeded_palExcl (st : Status) (f : ResultFlags) : (st.succeeded f).palExcl = f.palExcl := rfl

@[simp] theorem Status.writeOneToClear_done (st : Status) (v : Word) : (st.writeOneToClear v).done = (st.done && !v.getLsbD 1) := rfl
@[simp] theorem Status.writeOneToClear_err (st : Status) (v : Word) : (st.writeOneToClear v).err = (st.err && !v.getLsbD 2) := rfl
@[simp] theorem Status.writeOneToClear_drop (st : Status) (v : Word) : (st.writeOneToClear v).drop = (st.drop && !v.getLsbD 3) := rfl
@[simp] theorem Status.writeOneToClear_errcode (st : Status) (v : Word) : (st.writeOneToClear v).errcode = st.errcode := rfl
@[simp] theorem Status.writeOneToClear_resMethod (st : Status) (v : Word) : (st.writeOneToClear v).resMethod = st.resMethod := rfl
@[simp] theorem Status.writeOneToClear_resAlpha (st : Status) (v : Word) : (st.writeOneToClear v).resAlpha = st.resAlpha := rfl
@[simp] theorem Status.writeOneToClear_padded (st : Status) (v : Word) : (st.writeOneToClear v).padded = st.padded := rfl
@[simp] theorem Status.writeOneToClear_fellback (st : Status) (v : Word) : (st.writeOneToClear v).fellback = st.fellback := rfl
@[simp] theorem Status.writeOneToClear_palExcl (st : Status) (v : Word) : (st.writeOneToClear v).palExcl = st.palExcl := rfl

end Sys2Proof.Machine
end

