-- ==== Sys2Proof/Laws/Ops.lean ====
section
/-! SUPPORT. Each shared operation said once: what the window checks give, what `finish` can answer, everything the
frame of a command or of a byte code can do, and the form every meaning has. -/

namespace Sys2Proof.Machine

/-! ## Checks -/

theorem allFrom_iff (p : Nat → Bool) (n a : Nat) : allFrom p n a = true ↔ ∀ x, a ≤ x → x < a + n → p x = true := by
  induction n generalizing a with
  | zero => simp only [allFrom, true_iff]; omega
  | succ n ih =>
    rw [allFrom, Bool.and_eq_true, ih]
    constructor
    · rintro ⟨h0, h⟩ x h1 h2
      by_cases hx : x = a
      · exact hx ▸ h0
      · exact h x (by omega) (by omega)
    · intro h
      exact ⟨h a (Nat.le_refl a) (by omega), fun x h1 h2 => h x (by omega) (by omega)⟩

theorem require_ok {c : Bool} {k : ErrKind} {u : Unit} : require c k = .ok u ↔ c = true := by
  cases c <;> simp [require]

theorem bind_unit_ok {r : Res Unit} {f : Res Unit} {u : Unit} : (r >>= fun _ => f) = .ok u ↔ r = .ok () ∧ f = .ok u := by
  cases r <;> simp [bind, Except.bind]

/-- What `chk_win` gives about the destination window (20_memory R85, R86). -/
theorem chkWin_dst {P : Params} {l : Latch} {u : Unit} (h : chkWin P l = .ok u) :
    l.dstAddr.toNat + l.dstCap.toNat ≤ addressSpace ∧ ∀ a, l.inDst a = true → holdsMemory P a = true := by
  unfold chkWin at h
  rw [require_ok] at h
  simp only [Bool.and_eq_true, fitsSpace, decide_eq_true_eq, onMemory, allFrom_iff] at h
  obtain ⟨⟨⟨⟨-, hf⟩, -⟩, hm⟩, -⟩ := h
  refine ⟨hf, fun a ha => ?_⟩
  simp only [Latch.inDst, inWindow, Bool.and_eq_true, decide_eq_true_eq] at ha
  have := hm a ha.1 ha.2
  simp only [holdsMemory, Bool.and_eq_true, decide_eq_true_eq]
  exact ⟨⟨by omega, this.1⟩, this.2⟩

/-- Every command's checks include the window checks (R163). -/
theorem checksEncode_win {P : Params} {l : Latch} {u : Unit} (h : checksEncode P l = .ok u) : chkWin P l = .ok () := by
  simp only [checksEncode, bind_unit_ok] at h; exact h.2.1
theorem checksWindows_win {P : Params} {l : Latch} {u : Unit} (h : checksWindows P l = .ok u) : chkWin P l = .ok () := h
theorem checksPixels_win {P : Params} {l : Latch} {u : Unit} (h : checksPixels P l = .ok u) : chkWin P l = .ok () := by
  simp only [checksPixels, bind_unit_ok] at h; exact h.2.1
theorem checksStream_win {P : Params} {l : Latch} {u : Unit} (h : checksStream P l = .ok u) : chkWin P l = .ok () := by
  simp only [checksStream, bind_unit_ok] at h; exact h.2
theorem checksImage_win {P : Params} {l : Latch} {u : Unit} (h : checksImage P l = .ok u) : chkWin P l = .ok () := by
  simp only [checksImage, bind_unit_ok] at h; exact h.2.1
theorem checksResiduals_win {v : Variant} {P : Params} {l : Latch} {u : Unit} (h : checksResiduals v P l = .ok u) :
    chkWin P l = .ok () := by
  simp only [checksResiduals, bind_unit_ok] at h; exact h.2.1
theorem checksFilterStream_win {P : Params} {l : Latch} {u : Unit} (h : checksFilterStream P l = .ok u) :
    chkWin P l = .ok () := by
  simp only [checksFilterStream, bind_unit_ok] at h; exact h.2.1

/-! ## SCRATCH_BYTES -/

/-- Without a bound a stage ends as its rule says (00_scope R16). -/
theorem hold_unbounded {P : Params} (h : P.scratch = none) (site : Site) (input : Bytes) (r : Res Bytes) :
    hold P site input r = r := by simp [hold, h]

/-- Everything a stage run under SCRATCH_BYTES can answer (R16). -/
theorem hold_cases (P : Params) (site : Site) (input : Bytes) (r : Res Bytes) :
    hold P site input r = r ∨ (P.scratch ≠ none ∧ hold P site input r = .error .resourceLimit) := by
  unfold hold
  cases P.scratch with
  | none => exact .inl rfl
  | some n =>
    dsimp only
    split
    · exact .inr ⟨by simp, rfl⟩
    · exact .inl rfl

/-! ## Verdicts -/

/-- Everything `finish` can answer (R179). -/
theorem finish_cases (l : Latch) (r : Result) :
    (r.data.length ≤ l.dstCap.toNat ∧ finish l r = .success r) ∨
    (l.dstCap.toNat < r.data.length ∧ finish l r = .failure .bufferError true) := by
  unfold finish
  split
  · exact .inr ⟨by assumption, rfl⟩
  · exact .inl ⟨by omega, rfl⟩

/-- A rule whose successful results fit the destination window. -/
def RuleFits (rule : Params → Latch → Bytes → Report) : Prop :=
  ∀ P l S r, (rule P l S).verdict = .success r → r.data.length ≤ l.dstCap.toNat

theorem finish_fits {l : Latch} {r r' : Result} (h : finish l r = .success r') : r'.data.length ≤ l.dstCap.toNat := by
  obtain ⟨h1, h2⟩ | ⟨h1, h2⟩ := finish_cases l r
  · rw [h2] at h; cases h; exact h1
  · rw [h2] at h; cases h

theorem stageReport_fits {l : Latch} {x : Res Bytes} {r : Result} (h : (stageReport l x).verdict = .success r) :
    r.data.length ≤ l.dstCap.toNat := by
  cases x with
  | error k => cases h
  | ok D => exact finish_fits h

/-! ## The frame of a command -/

/-- Everything the frame of a command can do when it gives a next state (R161). -/
theorem runCommand_next {checks : Params → Latch → Res Unit} {rule : Params → Latch → Bytes → Report} {s t : State}
    (h : runCommand checks rule s = .next t) :
    (s.phase = .idle ∧ t = s) ∨
    (∃ l tainted k, s.phase = .busy l tainted ∧ checks s.cfg l = .error k ∧ t = rejectCommand l tainted k s) ∨
    (∃ l tainted, s.phase = .busy l tainted ∧ checks s.cfg l = .ok () ∧ l.overDevice s.cfg = false ∧
      t = finishCommand l tainted (rule s.cfg l (source l s)) s) := by
  unfold runCommand at h
  cases hp : s.phase with
  | idle => rw [hp] at h; cases h; exact .inl ⟨rfl, rfl⟩
  | busy l tainted =>
    rw [hp] at h
    simp only at h
    cases hc : checks s.cfg l with
    | error k => rw [hc] at h; cases h; exact .inr (.inl ⟨l, tainted, k, rfl, hc, rfl⟩)
    | ok u =>
      rw [hc] at h
      simp only at h
      cases hd : l.overDevice s.cfg with
      | true => rw [hd] at h; cases h
      | false =>
        rw [hd] at h
        cases h
        exact .inr (.inr ⟨l, tainted, rfl, hc, hd, rfl⟩)

/-- A command whose checks pass completes with its rule's report. -/
theorem runCommand_ok {checks : Params → Latch → Res Unit} {rule : Params → Latch → Bytes → Report} {s : State}
    {l : Latch} {tainted : Bool} (hp : s.phase = .busy l tainted) (hc : checks s.cfg l = .ok ())
    (hd : l.overDevice s.cfg = false) :
    runCommand checks rule s = .next (finishCommand l tainted (rule s.cfg l (source l s)) s) := by
  simp [runCommand, hp, hc, hd]

/-- A command whose checks fail is rejected. -/
theorem runCommand_rejects {checks : Params → Latch → Res Unit} {rule : Params → Latch → Bytes → Report} {s : State}
    {l : Latch} {tainted : Bool} {k : ErrKind} (hp : s.phase = .busy l tainted) (hc : checks s.cfg l = .error k) :
    runCommand checks rule s = .next (rejectCommand l tainted k s) := by
  simp [runCommand, hp, hc]

/-- The outcome of a completion by a report (R161). -/
theorem complete_cases (l : Latch) (rep : Report) (s : State) :
    (∃ r, rep.verdict = .success r ∧ complete l rep s = succeed l r (fillCand rep.cand s)) ∨
    (∃ k, rep.verdict = .failure k true ∧ complete l rep s = failDrawing l k (fillCand rep.cand s)) ∨
    (∃ k, rep.verdict = .failure k false ∧ complete l rep s = failKeeping k (fillCand rep.cand s)) := by
  unfold complete
  cases h : rep.verdict with
  | success r => exact .inl ⟨r, rfl, rfl⟩
  | failure k w =>
    cases w with
    | true => exact .inr (.inl ⟨k, rfl, rfl⟩)
    | false => exact .inr (.inr ⟨k, rfl, rfl⟩)

/-! ## The frame of a byte code -/

/-- Everything the frame of a byte code can do. -/
theorem runStage_next {f : Params → Work → Work} {s t : State} (h : runStage f s = .next t) :
    (s.phase = .idle ∧ t = s) ∨
    (∃ l tainted, s.phase = .busy l tainted ∧ t = { s with work := f s.cfg s.work }) := by
  unfold runStage at h
  cases hp : s.phase with
  | idle => rw [hp] at h; cases h; exact .inl ⟨rfl, rfl⟩
  | busy l tainted => rw [hp] at h; cases h; exact .inr ⟨l, tainted, rfl, rfl⟩

theorem runStage_busy {f : Params → Work → Work} {s : State} {l : Latch} {tainted : Bool}
    (hp : s.phase = .busy l tainted) : runStage f s = .next { s with work := f s.cfg s.work } := by
  simp [runStage, hp]

/-! ## The form of every meaning -/

theorem ruleEncode_fits : RuleFits ruleEncode := by
  intro P l S r h
  simp only [ruleEncode] at h
  split at h
  · cases h
  · exact finish_fits h

theorem ruleEncodeM_fits (m : Nat) : RuleFits (ruleEncodeM m) := by
  intro P l S r h
  simp only [ruleEncodeM] at h
  split at h
  · cases h
  · exact finish_fits h

theorem decodeVerdict_fits {l : Latch} {fb : Bool} {x : Except DecodeFailure DecodedImage} {r : Result}
    (h : decodeVerdict l fb x = .success r) : r.data.length ≤ l.dstCap.toNat := by
  cases x with
  | error e => cases h
  | ok d => exact finish_fits h

theorem ruleDecodeFastFb_fits : RuleFits ruleDecodeFastFb := by
  intro P l S r h
  simp only [ruleDecodeFastFb] at h
  split at h <;> exact decodeVerdict_fits h

theorem ruleHdrParse_fits : RuleFits ruleHdrParse := by
  intro P l S r h
  simp only [ruleHdrParse] at h
  split at h
  · cases h
  · exact finish_fits h

/-- Every command's checks include the window checks (R163). -/
theorem checksOf_win {i : Instr} {P : Params} {l : Latch} {u : Unit} (hi : i.format = .cmd)
    (h : checksOf i P l = .ok u) : chkWin P l = .ok () := by
  cases i <;> first
    | (exfalso; simp [Instr.format] at hi; done)
    | exact checksEncode_win h
    | exact checksPixels_win h
    | exact checksStream_win h
    | exact checksImage_win h
    | exact checksResiduals_win h
    | exact checksFilterStream_win h
    | exact checksWindows_win h

/-- A command's meaning: its operand checks, and a rule whose results fit the destination window. -/
def IsCommand (i : Instr) : Prop := ∃ rule, RuleFits rule ∧ ∀ s, exec i s = runCommand (checksOf i) rule s

/-- A byte code's meaning. -/
def IsStage (i : Instr) : Prop := ∃ g, ∀ s, exec i s = runStage g s

theorem isCommand_of {i : Instr} {rule : Params → Latch → Bytes → Report} (hr : RuleFits rule)
    (hf : ∀ s, exec i s = runCommand (checksOf i) rule s) : IsCommand i := ⟨rule, hr, hf⟩

/-- A command word's meaning is a command's, a byte code's a byte code's: all that `exec` can be. -/
theorem exec_form (i : Instr) : (i.format = .cmd ∧ IsCommand i) ∨ (i.format ≠ .cmd ∧ IsStage i) := by
  cases i
  case encode => exact .inl ⟨rfl, isCommand_of ruleEncode_fits fun _ => rfl⟩
  case encodeM0 => exact .inl ⟨rfl, isCommand_of (ruleEncodeM_fits 0) fun _ => rfl⟩
  case encodeM1 => exact .inl ⟨rfl, isCommand_of (ruleEncodeM_fits 1) fun _ => rfl⟩
  case encodeM2 => exact .inl ⟨rfl, isCommand_of (ruleEncodeM_fits 2) fun _ => rfl⟩
  case encodeM3 => exact .inl ⟨rfl, isCommand_of (ruleEncodeM_fits 3) fun _ => rfl⟩
  case encodeM4 => exact .inl ⟨rfl, isCommand_of (ruleEncodeM_fits 4) fun _ => rfl⟩
  case encodeM5 => exact .inl ⟨rfl, isCommand_of (ruleEncodeM_fits 5) fun _ => rfl⟩
  case encodeM6 => exact .inl ⟨rfl, isCommand_of (ruleEncodeM_fits 6) fun _ => rfl⟩
  case encodeM7 => exact .inl ⟨rfl, isCommand_of (ruleEncodeM_fits 7) fun _ => rfl⟩
  case encodeM8 => exact .inl ⟨rfl, isCommand_of (ruleEncodeM_fits 8) fun _ => rfl⟩
  case encodeM9 => exact .inl ⟨rfl, isCommand_of (ruleEncodeM_fits 9) fun _ => rfl⟩
  case encodeM10 => exact .inl ⟨rfl, isCommand_of (ruleEncodeM_fits 10) fun _ => rfl⟩
  case decode => exact .inl ⟨rfl, isCommand_of (rule := ruleDecode) (fun _ _ _ _ => decodeVerdict_fits) fun _ => rfl⟩
  case decodeFast => exact .inl ⟨rfl, isCommand_of (rule := ruleDecodeFast) (fun _ _ _ _ => decodeVerdict_fits) fun _ => rfl⟩
  case decodeFastFb => exact .inl ⟨rfl, isCommand_of ruleDecodeFastFb_fits fun _ => rfl⟩
  case hdrParse => exact .inl ⟨rfl, isCommand_of ruleHdrParse_fits fun _ => rfl⟩
  case rlePack => exact .inl ⟨rfl, isCommand_of (rule := ruleRlePack) (fun _ _ _ _ => stageReport_fits) fun _ => rfl⟩
  case rleUnpack => exact .inl ⟨rfl, isCommand_of (rule := ruleRleUnpack) (fun _ _ _ _ => stageReport_fits) fun _ => rfl⟩
  case predEncDelta => exact .inl ⟨rfl, isCommand_of (rule := (rulePredEnc .delta)) (fun _ _ _ _ => stageReport_fits) fun _ => rfl⟩
  case predEncAvg => exact .inl ⟨rfl, isCommand_of (rule := (rulePredEnc .avg)) (fun _ _ _ _ => stageReport_fits) fun _ => rfl⟩
  case predEncPaeth => exact .inl ⟨rfl, isCommand_of (rule := (rulePredEnc .paeth)) (fun _ _ _ _ => stageReport_fits) fun _ => rfl⟩
  case predDecDelta => exact .inl ⟨rfl, isCommand_of (rule := (rulePredDec .delta)) (fun _ _ _ _ => stageReport_fits) fun _ => rfl⟩
  case predDecAvg => exact .inl ⟨rfl, isCommand_of (rule := (rulePredDec .avg)) (fun _ _ _ _ => stageReport_fits) fun _ => rfl⟩
  case predDecPaeth => exact .inl ⟨rfl, isCommand_of (rule := (rulePredDec .paeth)) (fun _ _ _ _ => stageReport_fits) fun _ => rfl⟩
  case filtEncNone => exact .inl ⟨rfl, isCommand_of (rule := (ruleFiltEnc .none)) (fun _ _ _ _ => stageReport_fits) fun _ => rfl⟩
  case filtEncSub => exact .inl ⟨rfl, isCommand_of (rule := (ruleFiltEnc .sub)) (fun _ _ _ _ => stageReport_fits) fun _ => rfl⟩
  case filtEncUp => exact .inl ⟨rfl, isCommand_of (rule := (ruleFiltEnc .up)) (fun _ _ _ _ => stageReport_fits) fun _ => rfl⟩
  case filtEncAverage => exact .inl ⟨rfl, isCommand_of (rule := (ruleFiltEnc .average)) (fun _ _ _ _ => stageReport_fits) fun _ => rfl⟩
  case filtEncPaeth => exact .inl ⟨rfl, isCommand_of (rule := (ruleFiltEnc .paeth)) (fun _ _ _ _ => stageReport_fits) fun _ => rfl⟩
  case filtEncAdaptive => exact .inl ⟨rfl, isCommand_of (rule := ruleFiltEncAdaptive) (fun _ _ _ _ => stageReport_fits) fun _ => rfl⟩
  case filtDec => exact .inl ⟨rfl, isCommand_of (rule := ruleFiltDec) (fun _ _ _ _ => stageReport_fits) fun _ => rfl⟩
  case zencDefault => exact .inl ⟨rfl, isCommand_of (rule := (ruleZenc .default)) (fun _ _ _ _ => stageReport_fits) fun _ => rfl⟩
  case zencFiltered => exact .inl ⟨rfl, isCommand_of (rule := (ruleZenc .filtered)) (fun _ _ _ _ => stageReport_fits) fun _ => rfl⟩
  case zencHuffman => exact .inl ⟨rfl, isCommand_of (rule := (ruleZenc .huffmanOnly)) (fun _ _ _ _ => stageReport_fits) fun _ => rfl⟩
  case zdec => exact .inl ⟨rfl, isCommand_of (rule := ruleZdec) (fun _ _ _ _ => stageReport_fits) fun _ => rfl⟩
  case palEnc => exact .inl ⟨rfl, isCommand_of (rule := rulePalEnc) (fun _ _ _ _ => stageReport_fits) fun _ => rfl⟩
  case palDec => exact .inl ⟨rfl, isCommand_of (rule := rulePalDec) (fun _ _ _ _ => stageReport_fits) fun _ => rfl⟩
  all_goals exact .inr ⟨by simp [Instr.format], _, fun _ => rfl⟩

end Sys2Proof.Machine
end

