-- ==== Sys2Proof/Laws/PerInstr.lean ====
section
/-! SUPPORT. The family FormatOfCode, made per instruction: the code of an instruction stands in the format its row of
the opcode table names. -/

namespace Sys2Proof.Laws.FormatOfCode

/-- The format a code stands in. -/
def formatOf : Code → CodeFormat
  | .cmd _ => .cmd
  | .flags _ => .flags
  | .rowTag _ => .rowTag
  | .m4Tag _ => .m4Tag

/-- The encoder gives the code in the instruction's own format. -/
def Statement (i : Instr) : Prop := formatOf (Sys2Proof.encode i) = i.format

theorem encode : Statement .encode := rfl
theorem encodeM0 : Statement .encodeM0 := rfl
theorem encodeM1 : Statement .encodeM1 := rfl
theorem encodeM2 : Statement .encodeM2 := rfl
theorem encodeM3 : Statement .encodeM3 := rfl
theorem encodeM4 : Statement .encodeM4 := rfl
theorem encodeM5 : Statement .encodeM5 := rfl
theorem encodeM6 : Statement .encodeM6 := rfl
theorem encodeM7 : Statement .encodeM7 := rfl
theorem encodeM8 : Statement .encodeM8 := rfl
theorem encodeM9 : Statement .encodeM9 := rfl
theorem encodeM10 : Statement .encodeM10 := rfl
theorem decode : Statement .decode := rfl
theorem decodeFast : Statement .decodeFast := rfl
theorem decodeFastFb : Statement .decodeFastFb := rfl
theorem hdrParse : Statement .hdrParse := rfl
theorem rlePack : Statement .rlePack := rfl
theorem rleUnpack : Statement .rleUnpack := rfl
theorem predEncDelta : Statement .predEncDelta := rfl
theorem predEncAvg : Statement .predEncAvg := rfl
theorem predEncPaeth : Statement .predEncPaeth := rfl
theorem predDecDelta : Statement .predDecDelta := rfl
theorem predDecAvg : Statement .predDecAvg := rfl
theorem predDecPaeth : Statement .predDecPaeth := rfl
theorem filtEncNone : Statement .filtEncNone := rfl
theorem filtEncSub : Statement .filtEncSub := rfl
theorem filtEncUp : Statement .filtEncUp := rfl
theorem filtEncAverage : Statement .filtEncAverage := rfl
theorem filtEncPaeth : Statement .filtEncPaeth := rfl
theorem filtEncAdaptive : Statement .filtEncAdaptive := rfl
theorem filtDec : Statement .filtDec := rfl
theorem zencDefault : Statement .zencDefault := rfl
theorem zencFiltered : Statement .zencFiltered := rfl
theorem zencHuffman : Statement .zencHuffman := rfl
theorem zdec : Statement .zdec := rfl
theorem palEnc : Statement .palEnc := rfl
theorem palDec : Statement .palDec := rfl
theorem method0Identity (fl : Flags) : Statement (.method0Identity fl) := rfl
theorem method1RleZ (fl : Flags) : Statement (.method1RleZ fl) := rfl
theorem method2Z (fl : Flags) : Statement (.method2Z fl) := rfl
theorem method3ZBestStrategy (fl : Flags) : Statement (.method3ZBestStrategy fl) := rfl
theorem method4PredZ (fl : Flags) : Statement (.method4PredZ fl) := rfl
theorem method5PaletteZ (fl : Flags) : Statement (.method5PaletteZ fl) := rfl
theorem method6AdaptiveFilterZ (fl : Flags) : Statement (.method6AdaptiveFilterZ fl) := rfl
theorem method7UniformFilterZ (fl : Flags) : Statement (.method7UniformFilterZ fl) := rfl
theorem method8RleFilterZ (fl : Flags) : Statement (.method8RleFilterZ fl) := rfl
theorem method9AdaptiveFilterZ2 (fl : Flags) : Statement (.method9AdaptiveFilterZ2 fl) := rfl
theorem method10UniformFilterZ2 (fl : Flags) : Statement (.method10UniformFilterZ2 fl) := rfl
theorem filterTag0None : Statement .filterTag0None := rfl
theorem filterTag1Sub : Statement .filterTag1Sub := rfl
theorem filterTag2Up : Statement .filterTag2Up := rfl
theorem filterTag3Average : Statement .filterTag3Average := rfl
theorem filterTag4Paeth : Statement .filterTag4Paeth := rfl
theorem predTag0Delta : Statement .predTag0Delta := rfl
theorem predTag1Avg : Statement .predTag1Avg := rfl
theorem predTag2Paeth : Statement .predTag2Paeth := rfl

end Sys2Proof.Laws.FormatOfCode
end

