-- ==== Sys2Proof/Tests/Slice0.lean ====
section
/-! SUPPORT. The model's own tests. Every expected value comes from spec/: the words from 30_encoding R138, R119, R129
and R133, the results from the vectors of 95_test_vectors.md (named in each comment). -/

namespace Sys2Proof.Tests

-- One theorem at a time: the kernel evaluations of many at once take a thread's stack each.
set_option Elab.async false

open Sys2Proof.Machine

/-! ## WellFormed refuses an ill-formed term, for each check -/

/-- FLAGS fields whose reserved bits are not 0 (R122). -/
def badFlags : Flags := { alpha := false, rsvd := 0b001 }

theorem test_wellformed_refuses : ([.method0Identity badFlags, .method1RleZ badFlags, .method2Z badFlags,
    .method3ZBestStrategy badFlags, .method4PredZ badFlags, .method5PaletteZ badFlags,
    .method6AdaptiveFilterZ badFlags, .method7UniformFilterZ badFlags, .method8RleFilterZ badFlags,
    .method9AdaptiveFilterZ2 badFlags, .method10UniformFilterZ2 badFlags] : List Instr).all
      (fun i => !i.wellFormed) = true := by decide

/-! ## Decoding: a word of every row, written out from its encoding -/

theorem test_decode_image_words : ([(0x00000001, .encode), (0x00000002, .encodeM0), (0x00000102, .encodeM1),
    (0x00000202, .encodeM2), (0x00000302, .encodeM3), (0x00000402, .encodeM4), (0x00000502, .encodeM5),
    (0x00000602, .encodeM6), (0x00000702, .encodeM7), (0x00000802, .encodeM8), (0x00000902, .encodeM9),
    (0x00000A02, .encodeM10), (0x00000003, .decode), (0x00000004, .decodeFast), (0x00001004, .decodeFastFb),
    (0x00000005, .hdrParse)] : List (Word × Instr)).all (fun p => decodeCmd p.1 == .instr p.2) = true := by decide

theorem test_decode_stage_words : ([(0x00000010, .rlePack), (0x00000011, .rleUnpack), (0x00000012, .predEncDelta),
    (0x00000112, .predEncAvg), (0x00000212, .predEncPaeth), (0x00000013, .predDecDelta), (0x00000113, .predDecAvg),
    (0x00000213, .predDecPaeth), (0x00000014, .filtEncNone), (0x00000114, .filtEncSub), (0x00000214, .filtEncUp),
    (0x00000314, .filtEncAverage), (0x00000414, .filtEncPaeth), (0x00000514, .filtEncAdaptive),
    (0x00000015, .filtDec), (0x00000016, .zencDefault), (0x00000116, .zencFiltered), (0x00000216, .zencHuffman),
    (0x00000017, .zdec), (0x00000018, .palEnc), (0x00000019, .palDec)] : List (Word × Instr)).all
      (fun p => decodeCmd p.1 == .instr p.2) = true := by decide

/-- Bit by bit: RSVD, F, M, OP (R110), for DECODE_FAST fb and FILT_ENC average. -/
theorem test_decode_bits : decodeCmd 0b0000000000000000000_1_0000_00000100 = .instr .decodeFastFb ∧
    decodeCmd 0b0000000000000000000_0_0011_00010100 = .instr .filtEncAverage := by decide

/-- RSVD, ALPHA, METHOD (R119). -/
theorem test_decode_flags : ([(0b000_0_0000, .method0Identity ⟨false, 0⟩), (0b000_1_0001, .method1RleZ ⟨true, 0⟩),
    (0b000_0_0010, .method2Z ⟨false, 0⟩), (0b000_1_0011, .method3ZBestStrategy ⟨true, 0⟩),
    (0b000_0_0100, .method4PredZ ⟨false, 0⟩), (0b000_1_0101, .method5PaletteZ ⟨true, 0⟩),
    (0b000_1_0110, .method6AdaptiveFilterZ ⟨true, 0⟩), (0b000_0_0111, .method7UniformFilterZ ⟨false, 0⟩),
    (0b000_1_1000, .method8RleFilterZ ⟨true, 0⟩), (0b000_0_1001, .method9AdaptiveFilterZ2 ⟨false, 0⟩),
    (0b111_0_1010, .method10UniformFilterZ2 ⟨false, 0⟩)] : List (Byte × Instr)).all
      (fun p => decodeFlags p.1 == .instr p.2) = true := by decide

theorem test_decode_tags : ([(0x00, .filterTag0None), (0x01, .filterTag1Sub), (0x02, .filterTag2Up),
    (0x03, .filterTag3Average), (0x04, .filterTag4Paeth)] : List (Byte × Instr)).all
      (fun p => decodeRowTag p.1 == .instr p.2) = true ∧
    ([(0x00, .predTag0Delta), (0x01, .predTag1Avg), (0x02, .predTag2Paeth)] : List (Byte × Instr)).all
      (fun p => decodeM4Tag p.1 == .instr p.2) = true := by decide

/-- Vectors V-CMD-1 to V-CMD-13 and V-CMD-17. -/
theorem test_reject_words : ([0x00000000, 0x00002001, 0x80000001, 0x00001001, 0x00001B02, 0x00000F20, 0x00000312,
    0x00000614, 0x00000316, 0x00000101, 0x00000104, 0x00011004, 0x00000110] : List Word).all
      (fun w => decodeCmd w == .illegal) = true ∧ decodeCmd 0x00000B02 = .unsupported 11 := by decide

/-- R138. -/
theorem test_assemble : assemble "DECODE_FAST" (some "fb") = some .decodeFastFb ∧
    assemble "PRED_ENC" (some "paeth") = some .predEncPaeth ∧ assemble "FILT_ENC" (some "paeth") = some .filtEncPaeth ∧
    assemble "ENCODE_M" (some "10") = some .encodeM10 ∧ assemble "ENCODE_M" none = none := by decide

/-! ## One command, from acceptance to completion -/

/-- The platform of 95_test_vectors section 3, with the entropy encoder REF_STORED. -/
def cfg : Params :=
  { enginePage := 0x400000, memMap := [{ base := 0x1000, size := 0xF000 }], entropy := .refStored,
    extraEvaluators := 0 }

/-- Before acceptance: source at 0x1000, destination at 0x4000. -/
def host (w h ch cap : Word) (src : Bytes) : State :=
  { State.reset with
    cfg := cfg, srcAddr := 0x1000, srcLen := BitVec.ofNat 32 src.length, dstAddr := 0x4000, dstCap := cap
    imgW := w, imgH := h, imgCh := ch, mem := Memory.write [] 0x1000 src }

/-- A word accepted, its complete step next. -/
def running (word w h ch cap : Word) (src : Bytes) : State := accept word (host w h ch cap src)

/-- STATUS, DST_LEN and the result bytes. -/
def outcome (o : Host.Outcome State Fault Refusal) : Option (Nat × Nat × Bytes) :=
  match o with
  | .next t => some ((readReg .status t).toNat, t.dstLen.toNat, t.mem.read 0x4000 t.dstLen.toNat)
  | .fault _ => none
  | .refused _ => none

/-- What the complete step of a word leaves. -/
def result (word w h ch cap : Word) (src : Bytes) : Option (Nat × Nat × Bytes) :=
  outcome (step (running word w h ch cap src))

/-- STATUS and CAND_SIZE after the complete step. -/
def sizes (word w h ch cap : Word) (src : Bytes) : Option (Nat × List Nat) :=
  match step (running word w h ch cap src) with
  | .next t => some ((readReg .status t).toNat, t.candSize.toList.map BitVec.toNat)
  | .fault _ => none
  | .refused _ => none

/-- The 2x2 image X of 95_test_vectors. -/
def imageX : Bytes := [0x0a, 0x14, 0x1e, 0x0b, 0x16, 0x21, 0x0c, 0x18, 0x24, 0x0d, 0x1a, 0x27]

/-- The 2x1 image B2. -/
def imageB2 : Bytes := [0x0a, 0x14, 0x1e, 0x0a, 0x14, 0x1e]

/-- V-SEL-1. -/
theorem test_encode : result 1 2 1 3 0x40 imageB2 = some (0x00000002, 13, [0x50, 0x58, 2, 0, 1, 0, 0, 0x0a, 0x14,
    0x1e, 0x0a, 0x14, 0x1e]) := by decide +kernel

/-- V-SEL-1 and V-SEL-4: the entries stand although the container does not fit. -/
theorem test_encode_sizes : sizes 1 2 1 3 0x40 imageB2 = some (0x00000002, [6, 15, 17, 17, 18, 18, 18, 18, 16, 29,
    29]) ∧ sizes 1 2 1 3 12 imageB2 = some (0x00000806, [6, 15, 17, 17, 18, 18, 18, 18, 16, 29, 29]) := by
    decide +kernel

/-- V-RT-1. -/
theorem test_encode_m0 : result 0x002 2 2 3 64 imageX = some (0x00000002, 19, [0x50, 0x58, 0x02, 0x00, 0x02, 0x00,
    0x00, 0x0a, 0x14, 0x1e, 0x0b, 0x16, 0x21, 0x0c, 0x18, 0x24, 0x0d, 0x1a, 0x27]) := by decide +kernel

/-- V-RT-1. -/
theorem test_encode_m1 : result 0x102 2 2 3 64 imageX = some (0x00010002, 34, [0x50, 0x58, 0x02, 0x00, 0x02, 0x00,
    0x01, 0x78, 0x01, 0x01, 0x10, 0x00, 0xef, 0xff, 0x01, 0x0a, 0x14, 0x1e, 0x01, 0x0b, 0x16, 0x21, 0x01, 0x0c,
    0x18, 0x24, 0x01, 0x0d, 0x1a, 0x27, 0x08, 0x04, 0x01, 0x19]) := by decide +kernel

/-- V-RT-1. -/
theorem test_encode_m2 : result 0x202 2 2 3 64 imageX = some (0x00020002, 30, [0x50, 0x58, 0x02, 0x00, 0x02, 0x00,
    0x02, 0x78, 0x01, 0x01, 0x0c, 0x00, 0xf3, 0xff, 0x0a, 0x14, 0x1e, 0x0b, 0x16, 0x21, 0x0c, 0x18, 0x24, 0x0d,
    0x1a, 0x27, 0x06, 0x58, 0x01, 0x15]) := by decide +kernel

/-- V-RT-1. -/
theorem test_encode_m3 : result 0x302 2 2 3 64 imageX = some (0x00030002, 30, [0x50, 0x58, 0x02, 0x00, 0x02, 0x00,
    0x03, 0x78, 0x01, 0x01, 0x0c, 0x00, 0xf3, 0xff, 0x0a, 0x14, 0x1e, 0x0b, 0x16, 0x21, 0x0c, 0x18, 0x24, 0x0d,
    0x1a, 0x27, 0x06, 0x58, 0x01, 0x15]) := by decide +kernel

/-- V-RT-1. -/
theorem test_encode_m4 : result 0x402 2 2 3 64 imageX = some (0x00040002, 31, [0x50, 0x58, 0x02, 0x00, 0x02, 0x00,
    0x04, 0x00, 0x78, 0x01, 0x01, 0x0c, 0x00, 0xf3, 0xff, 0x0a, 0x14, 0x1e, 0x01, 0x02, 0x03, 0x01, 0x02, 0x03,
    0x01, 0x02, 0x03, 0x02, 0xe0, 0x00, 0x4f]) := by decide +kernel

/-- V-RT-1. -/
theorem test_encode_m5 : result 0x502 2 2 3 64 imageX = some (0x00050002, 36, [0x50, 0x58, 0x02, 0x00, 0x02, 0x00,
    0x05, 0x78, 0x01, 0x01, 0x12, 0x00, 0xed, 0xff, 0x04, 0x00, 0x0a, 0x14, 0x1e, 0x0b, 0x16, 0x21, 0x0c, 0x18,
    0x24, 0x0d, 0x1a, 0x27, 0x00, 0x01, 0x02, 0x03, 0x0b, 0x00, 0x01, 0x1f]) := by decide +kernel

/-- V-RT-1. -/
theorem test_encode_m6 : result 0x602 2 2 3 64 imageX = some (0x00060002, 32, [0x50, 0x58, 0x02, 0x00, 0x02, 0x00,
    0x06, 0x78, 0x01, 0x01, 0x0e, 0x00, 0xf1, 0xff, 0x00, 0x0a, 0x14, 0x1e, 0x0b, 0x16, 0x21, 0x00, 0x0c, 0x18,
    0x24, 0x0d, 0x1a, 0x27, 0x06, 0xd8, 0x01, 0x15]) := by decide +kernel

/-- V-RT-1. -/
theorem test_encode_m7 : result 0x702 2 2 3 64 imageX = some (0x00070002, 32, [0x50, 0x58, 0x02, 0x00, 0x02, 0x00,
    0x07, 0x78, 0x01, 0x01, 0x0e, 0x00, 0xf1, 0xff, 0x00, 0x0a, 0x14, 0x1e, 0x0b, 0x16, 0x21, 0x00, 0x0c, 0x18,
    0x24, 0x0d, 0x1a, 0x27, 0x06, 0xd8, 0x01, 0x15]) := by decide +kernel

/-- V-RT-1. -/
theorem test_encode_m8 : result 0x802 2 2 3 64 imageX = some (0x00080002, 35, [0x50, 0x58, 0x02, 0x00, 0x02, 0x00,
    0x08, 0x78, 0x01, 0x01, 0x11, 0x00, 0xee, 0xff, 0x00, 0x01, 0x0a, 0x14, 0x1e, 0x01, 0x0b, 0x16, 0x21, 0x01,
    0x0c, 0x18, 0x24, 0x01, 0x0d, 0x1a, 0x27, 0x08, 0x05, 0x01, 0x19]) := by decide +kernel

/-- V-RT-1. -/
theorem test_encode_m9 : result 0x902 2 2 3 64 imageX = some (0x00090002, 43, [0x50, 0x58, 0x02, 0x00, 0x02, 0x00,
    0x09, 0x78, 0x01, 0x01, 0x19, 0x00, 0xe6, 0xff, 0x78, 0x01, 0x01, 0x0e, 0x00, 0xf1, 0xff, 0x00, 0x0a, 0x14,
    0x1e, 0x0b, 0x16, 0x21, 0x00, 0x0c, 0x18, 0x24, 0x0d, 0x1a, 0x27, 0x06, 0xd8, 0x01, 0x15, 0x40, 0xc6, 0x04,
    0x81]) := by decide +kernel

/-- V-RT-1. -/
theorem test_encode_m10 : result 0xA02 2 2 3 64 imageX = some (0x000a0002, 43, [0x50, 0x58, 0x02, 0x00, 0x02, 0x00,
    0x0a, 0x78, 0x01, 0x01, 0x19, 0x00, 0xe6, 0xff, 0x78, 0x01, 0x01, 0x0e, 0x00, 0xf1, 0xff, 0x00, 0x0a, 0x14,
    0x1e, 0x0b, 0x16, 0x21, 0x00, 0x0c, 0x18, 0x24, 0x0d, 0x1a, 0x27, 0x06, 0xd8, 0x01, 0x15, 0x40, 0xc6, 0x04,
    0x81]) := by decide +kernel

/-- V-RT-1. -/
theorem test_decode_m4 : result 3 0 0 0 64 [0x50, 0x58, 0x02, 0x00, 0x02, 0x00, 0x04, 0x00, 0x78, 0x01, 0x01, 0x0c,
    0x00, 0xf3, 0xff, 0x0a, 0x14, 0x1e, 0x01, 0x02, 0x03, 0x01, 0x02, 0x03, 0x01, 0x02, 0x03, 0x02, 0xe0, 0x00,
    0x4f] = some (0x00040002, 12, [0x0a, 0x14, 0x1e, 0x0b, 0x16, 0x21, 0x0c, 0x18, 0x24, 0x0d, 0x1a, 0x27]) := by
    decide +kernel

/-- V-TR-1. -/
theorem test_decode_truncated : result 3 0 0 0 64 [0x50, 0x58, 0x02, 0x00, 0x01, 0x00, 0x00, 0x0a, 0x14, 0x1e, 0x0a]
    = some (0x00200002, 6, [0x0a, 0x14, 0x1e, 0x00, 0x00, 0x00]) := by decide +kernel

/-- V-FP-1: STATUS and DST_LEN (the destination window then holds any value). -/
theorem test_decode_fast : (result 4 0 0 0 12 [0x50, 0x58, 0x02, 0x00, 0x02, 0x00, 0x06, 0x78, 0x01, 0x01, 0x0e,
    0x00, 0xf1, 0xff, 0x00, 0x0a, 0x14, 0x1e, 0x0b, 0x16, 0x21, 0x00, 0x0c, 0x18, 0x24, 0x0d, 0x1a, 0x27, 0x06,
    0xd8, 0x01, 0x15]).map (fun r => (r.1, r.2.1)) = some (0x00000206, 0) := by decide +kernel

/-- V-FP-1, method 2. -/
theorem test_decode_fast_subset : result 4 0 0 0 12 [0x50, 0x58, 0x02, 0x00, 0x02, 0x00, 0x02, 0x78, 0x01, 0x01,
    0x0c, 0x00, 0xf3, 0xff, 0x0a, 0x14, 0x1e, 0x0b, 0x16, 0x21, 0x0c, 0x18, 0x24, 0x0d, 0x1a, 0x27, 0x06, 0x58,
    0x01, 0x15] = some (0x00020002, 12, [0x0a, 0x14, 0x1e, 0x0b, 0x16, 0x21, 0x0c, 0x18, 0x24, 0x0d, 0x1a, 0x27]) :=
    by decide +kernel

/-- V-FP-1. -/
theorem test_decode_fast_fb : result 0x1004 0 0 0 12 [0x50, 0x58, 0x02, 0x00, 0x02, 0x00, 0x06, 0x78, 0x01, 0x01,
    0x0e, 0x00, 0xf1, 0xff, 0x00, 0x0a, 0x14, 0x1e, 0x0b, 0x16, 0x21, 0x00, 0x0c, 0x18, 0x24, 0x0d, 0x1a, 0x27,
    0x06, 0xd8, 0x01, 0x15] = some (0x00460002, 12, [0x0a, 0x14, 0x1e, 0x0b, 0x16, 0x21, 0x0c, 0x18, 0x24, 0x0d,
    0x1a, 0x27]) := by decide +kernel

/-- V-DEC-19, P9. -/
theorem test_hdr_parse : result 5 0 0 0 0 [0x50, 0x58, 0x02, 0x00, 0x01, 0x00, 0x16] = some (0x00160002, 0, []) :=
    by decide +kernel

/-- V-RLE-5. -/
theorem test_rle_pack : result 0x10 0 0 3 64 [0x0a, 0x14, 0x1e, 0x0a, 0x14, 0x1e, 0x0b, 0x16, 0x21] = some
    (0x00000002, 8, [0x02, 0x0a, 0x14, 0x1e, 0x01, 0x0b, 0x16, 0x21]) := by decide +kernel

/-- V-RLE-12. -/
theorem test_rle_pack_length : result 0x10 0 0 3 64 [0x0a, 0x14, 0x1e, 0x0a, 0x14, 0x1e, 0x0b] = some (0x00000906,
    0, []) := by decide +kernel

/-- V-RLE-7 and V-RLE-8, joined. -/
theorem test_rle_unpack : result 0x11 0 0 3 64 [0x02, 0x0a, 0x14, 0x1e, 0x01, 0x00, 0x00, 0x00, 0x00, 0x0a, 0x14,
    0x1e, 0x01, 0x11, 0x12, 0x13] = some (0x00000002, 12, [0x0a, 0x14, 0x1e, 0x0a, 0x14, 0x1e, 0x00, 0x00, 0x00,
    0x11, 0x12, 0x13]) := by decide +kernel

/-- V-PRED-1. -/
theorem test_pred_enc_delta : result 0x12 2 2 3 64 imageX = some (0x00000002, 12, [0x0a, 0x14, 0x1e, 0x01, 0x02,
    0x03, 0x01, 0x02, 0x03, 0x01, 0x02, 0x03]) := by decide +kernel

/-- V-PRED-2. -/
theorem test_pred_enc_avg : result 0x112 2 2 3 64 imageX = some (0x00000002, 12, [0x0a, 0x14, 0x1e, 0x01, 0x02,
    0x03, 0x01, 0x02, 0x03, 0x01, 0x02, 0x03]) := by decide +kernel

/-- V-PRED-3. -/
theorem test_pred_enc_paeth : result 0x212 2 2 3 64 imageX = some (0x00000002, 12, [0x0a, 0x14, 0x1e, 0x01, 0x02,
    0x03, 0x02, 0x04, 0x06, 0x02, 0x03, 0x05]) := by decide +kernel

/-- V-PRED-6. -/
theorem test_pred_dec_delta : result 0x13 2 1 3 64 [0xff, 0x00, 0x00, 0x02, 0xff, 0x00] = some (0x00000002, 6,
    [0xff, 0x00, 0x00, 0x01, 0xff, 0x00]) := by decide +kernel

/-- V-PRED-11, which variant 1 gives too (R206). -/
theorem test_pred_dec_avg : result 0x113 0 0 3 64 [0x05, 0x06, 0x07] = some (0x00000002, 3, [0x05, 0x06, 0x07]) :=
    by decide +kernel

/-- V-PRED-4. -/
theorem test_pred_dec_paeth : result 0x213 2 2 3 64 [0x0a, 0x14, 0x1e, 0x01, 0x02, 0x03, 0x02, 0x04, 0x06, 0x02,
    0x03, 0x05] = some (0x00000002, 12, [0x0a, 0x14, 0x1e, 0x0b, 0x16, 0x21, 0x0c, 0x18, 0x24, 0x0d, 0x1a, 0x27]) :=
    by decide +kernel

/-- V-PRED-10. -/
theorem test_pred_dec_paeth_width : result 0x213 0 0 3 64 [0x05, 0x06, 0x07] = some (0x00000906, 0, []) := by
    decide +kernel

/-- V-FIL-1. -/
theorem test_filt_enc_none : result 0x014 2 2 3 64 imageX = some (0x00000002, 14, [0x00, 0x0a, 0x14, 0x1e, 0x0b,
    0x16, 0x21, 0x00, 0x0c, 0x18, 0x24, 0x0d, 0x1a, 0x27]) := by decide +kernel

/-- V-FIL-2. -/
theorem test_filt_enc_sub : result 0x114 2 2 3 64 imageX = some (0x00000002, 14, [0x01, 0x0a, 0x14, 0x1e, 0x01,
    0x02, 0x03, 0x01, 0x0c, 0x18, 0x24, 0x01, 0x02, 0x03]) := by decide +kernel

/-- V-FIL-4. -/
theorem test_filt_enc_up : result 0x214 2 2 3 64 imageX = some (0x00000002, 14, [0x02, 0x0a, 0x14, 0x1e, 0x0b, 0x16,
    0x21, 0x02, 0x02, 0x04, 0x06, 0x02, 0x04, 0x06]) := by decide +kernel

/-- V-FIL-5. -/
theorem test_filt_enc_average : result 0x314 2 2 3 64 imageX = some (0x00000002, 14, [0x03, 0x0a, 0x14, 0x1e, 0x06,
    0x0c, 0x12, 0x03, 0x07, 0x0e, 0x15, 0x02, 0x03, 0x05]) := by decide +kernel

/-- V-FIL-3. -/
theorem test_filt_enc_paeth : result 0x414 2 2 3 64 imageX = some (0x00000002, 14, [0x04, 0x0a, 0x14, 0x1e, 0x01,
    0x02, 0x03, 0x04, 0x02, 0x04, 0x06, 0x01, 0x02, 0x03]) := by decide +kernel

/-- V-FIL-7. -/
theorem test_filt_enc_adaptive : result 0x514 2 2 3 64 [0xc8, 0xc8, 0xc8, 0x0a, 0x0a, 0x0a, 0xc9, 0xc9, 0xc9, 0x0b,
    0x0b, 0x0b] = some (0x00000002, 14, [0x01, 0xc8, 0xc8, 0xc8, 0x42, 0x42, 0x42, 0x03, 0x65, 0x65, 0x65, 0xa2,
    0xa2, 0xa2]) := by decide +kernel

/-- V-FIL-8. -/
theorem test_filt_enc_adaptive_tie : result 0x514 1 2 3 64 [0x10, 0x10, 0x10, 0x90, 0x90, 0x90] = some (0x00000002,
    8, [0x00, 0x10, 0x10, 0x10, 0x02, 0x80, 0x80, 0x80]) := by decide +kernel

/-- V-FIL-3. -/
theorem test_filt_dec : result 0x15 2 2 3 64 [0x04, 0x0a, 0x14, 0x1e, 0x01, 0x02, 0x03, 0x04, 0x02, 0x04, 0x06,
    0x01, 0x02, 0x03] = some (0x00000002, 12, [0x0a, 0x14, 0x1e, 0x0b, 0x16, 0x21, 0x0c, 0x18, 0x24, 0x0d, 0x1a,
    0x27]) := by decide +kernel

/-- V-FIL-19. -/
theorem test_filt_dec_partial : result 0x15 2 2 3 64 [0x00, 0x0a, 0x14, 0x1e, 0x0b, 0x16, 0x21, 0x02, 0x01] = some
    (0x00000002, 7, [0x0a, 0x14, 0x1e, 0x0b, 0x16, 0x21, 0x0b]) := by decide +kernel

/-- V-ZD-1, under REF_STORED. -/
theorem test_zenc_default : result 0x16 0 0 0 64 [0x61] = some (0x00000002, 12, [0x78, 0x01, 0x01, 0x01, 0x00, 0xfe,
    0xff, 0x61, 0x00, 0x62, 0x00, 0x62]) := by decide +kernel

/-- V-ZD-1, under REF_STORED. -/
theorem test_zenc_filtered : result 0x116 0 0 0 64 [0x61] = some (0x00000002, 12, [0x78, 0x01, 0x01, 0x01, 0x00,
    0xfe, 0xff, 0x61, 0x00, 0x62, 0x00, 0x62]) := by decide +kernel

/-- V-ZD-1, under REF_STORED. -/
theorem test_zenc_huffman : result 0x216 0 0 0 64 [0x61] = some (0x00000002, 12, [0x78, 0x01, 0x01, 0x01, 0x00,
    0xfe, 0xff, 0x61, 0x00, 0x62, 0x00, 0x62]) := by decide +kernel

/-- V-ZD-7. -/
theorem test_zdec_dynamic : result 0x17 0 0 5 64 [0x78, 0x01, 0x05, 0xc1, 0x01, 0x01, 0x00, 0x00, 0x00, 0x82, 0xa0,
    0xad, 0xd8, 0xff, 0x0f, 0x01, 0x00, 0x54, 0xed, 0x3a, 0x1a, 0x06, 0x78] = some (0x00000002, 17, [0x61, 0x61,
    0x61, 0x61, 0x61, 0x61, 0x61, 0x61, 0x61, 0x61, 0x61, 0x61, 0x62, 0x62, 0x62, 0x62, 0x63]) := by decide +kernel

/-- V-ZD-5: a back-reference. -/
theorem test_zdec_fixed : result 0x17 0 0 0 64 [0x78, 0x9c, 0x4b, 0x4c, 0x84, 0x01, 0x00, 0x14, 0xe1, 0x03, 0xcb] =
    some (0x00000002, 10, [0x61, 0x61, 0x61, 0x61, 0x61, 0x61, 0x61, 0x61, 0x61, 0x61]) := by decide +kernel

/-- V-PAL-6. -/
theorem test_pal_enc : result 0x18 0 0 3 64 [0x0a, 0x14, 0x1e, 0x00, 0x00, 0x00, 0x0a, 0x14, 0x1e] = some
    (0x00000002, 11, [0x02, 0x00, 0x0a, 0x14, 0x1e, 0x00, 0x00, 0x00, 0x00, 0x01, 0x00]) := by decide +kernel

/-- V-PAL-16. -/
theorem test_pal_dec : result 0x19 0 0 3 64 [0x02, 0x00, 0x0d, 0x1a, 0x27, 0x0a, 0x14, 0x1e, 0x01, 0x00, 0x01] =
    some (0x00000002, 9, [0x0a, 0x14, 0x1e, 0x0d, 0x1a, 0x27, 0x0a, 0x14, 0x1e]) := by decide +kernel

/-! ## The entropy decoder's failures -/

/-- V-ZD-20 to V-ZD-34, in order. -/
theorem test_zdecode_errors : ([([], .truncatedPayload),
    ([0x78], .truncatedPayload),
    ([0x78, 0x00], .corruptPayload),
    ([0x79, 0x18, 0x03, 0x00, 0x00, 0x00, 0x00, 0x01], .corruptPayload),
    ([0x88, 0x1c, 0x03, 0x00, 0x00, 0x00, 0x00, 0x01], .corruptPayload),
    ([0x78, 0xbb], .corruptPayload),
    ([0x78, 0x01, 0x07], .corruptPayload),
    ([0x78, 0x01, 0x01, 0x01, 0x00, 0xfe, 0xfe, 0x61, 0x00, 0x62, 0x00, 0x62], .corruptPayload),
    ([0x78, 0x01, 0x01, 0x01, 0x00, 0xfe, 0xff, 0x61, 0x00, 0x62, 0x00, 0x63], .corruptPayload),
    ([0x78, 0x01, 0x01, 0x01, 0x00, 0xfe, 0xff, 0x61, 0x00, 0x62, 0x00], .truncatedPayload),
    ([0x78, 0x01, 0x01, 0x01, 0x00, 0xfe, 0xff], .truncatedPayload),
    ([0x78, 0x01, 0x00, 0x01, 0x00, 0xfe, 0xff, 0x61], .truncatedPayload),
    ([0x78, 0x01, 0x03, 0x01, 0x00, 0x00, 0x00, 0x00, 0x00], .corruptPayload),
    ([0x78, 0x01, 0x1b, 0x03, 0x00, 0x00, 0x00, 0x00], .corruptPayload),
    ([0x78, 0x01, 0x4b, 0x04, 0x3e, 0x00, 0x00, 0x00, 0x00, 0x00], .corruptPayload)] : List (Bytes × ErrKind)).all
      (fun p => decide (zdecode none p.1 = .error p.2)) = true := by decide +kernel

/-! ## Byte codes -/

/-- What one stage turn leaves in internal storage of a running command. -/
def staged (word w h ch : Word) (src : Bytes) (fmt : CodeFormat) : Option (Bytes × Option ErrKind) :=
  match step { running word w h ch 0x40 src with inputs := [.stage fmt] } with
  | .next t => some (t.work.out, t.work.fail)
  | .fault _ => none
  | .refused _ => none

/-- V-RT-1. -/
theorem test_method0_code : staged 3 0 0 0 [0x50, 0x58, 0x02, 0x00, 0x02, 0x00, 0x00, 0x0a, 0x14, 0x1e, 0x0b, 0x16,
    0x21, 0x0c, 0x18, 0x24, 0x0d, 0x1a, 0x27] .flags = some (imageX, none) := by decide +kernel

/-- V-RT-1. -/
theorem test_method1_code : staged 3 0 0 0 [0x50, 0x58, 0x02, 0x00, 0x02, 0x00, 0x01, 0x78, 0x01, 0x01, 0x10, 0x00,
    0xef, 0xff, 0x01, 0x0a, 0x14, 0x1e, 0x01, 0x0b, 0x16, 0x21, 0x01, 0x0c, 0x18, 0x24, 0x01, 0x0d, 0x1a, 0x27,
    0x08, 0x04, 0x01, 0x19] .flags = some (imageX, none) := by decide +kernel

/-- V-RT-1. -/
theorem test_method2_code : staged 3 0 0 0 [0x50, 0x58, 0x02, 0x00, 0x02, 0x00, 0x02, 0x78, 0x01, 0x01, 0x0c, 0x00,
    0xf3, 0xff, 0x0a, 0x14, 0x1e, 0x0b, 0x16, 0x21, 0x0c, 0x18, 0x24, 0x0d, 0x1a, 0x27, 0x06, 0x58, 0x01, 0x15]
    .flags = some (imageX, none) := by decide +kernel

/-- V-RT-1. -/
theorem test_method3_code : staged 3 0 0 0 [0x50, 0x58, 0x02, 0x00, 0x02, 0x00, 0x03, 0x78, 0x01, 0x01, 0x0c, 0x00,
    0xf3, 0xff, 0x0a, 0x14, 0x1e, 0x0b, 0x16, 0x21, 0x0c, 0x18, 0x24, 0x0d, 0x1a, 0x27, 0x06, 0x58, 0x01, 0x15]
    .flags = some (imageX, none) := by decide +kernel

/-- V-RT-1. -/
theorem test_method4_code : staged 3 0 0 0 [0x50, 0x58, 0x02, 0x00, 0x02, 0x00, 0x04, 0x00, 0x78, 0x01, 0x01, 0x0c,
    0x00, 0xf3, 0xff, 0x0a, 0x14, 0x1e, 0x01, 0x02, 0x03, 0x01, 0x02, 0x03, 0x01, 0x02, 0x03, 0x02, 0xe0, 0x00,
    0x4f] .flags = some (imageX, none) := by decide +kernel

/-- V-RT-1. -/
theorem test_method5_code : staged 3 0 0 0 [0x50, 0x58, 0x02, 0x00, 0x02, 0x00, 0x05, 0x78, 0x01, 0x01, 0x12, 0x00,
    0xed, 0xff, 0x04, 0x00, 0x0a, 0x14, 0x1e, 0x0b, 0x16, 0x21, 0x0c, 0x18, 0x24, 0x0d, 0x1a, 0x27, 0x00, 0x01,
    0x02, 0x03, 0x0b, 0x00, 0x01, 0x1f] .flags = some (imageX, none) := by decide +kernel

/-- V-RT-1. -/
theorem test_method6_code : staged 3 0 0 0 [0x50, 0x58, 0x02, 0x00, 0x02, 0x00, 0x06, 0x78, 0x01, 0x01, 0x0e, 0x00,
    0xf1, 0xff, 0x00, 0x0a, 0x14, 0x1e, 0x0b, 0x16, 0x21, 0x00, 0x0c, 0x18, 0x24, 0x0d, 0x1a, 0x27, 0x06, 0xd8,
    0x01, 0x15] .flags = some (imageX, none) := by decide +kernel

/-- V-RT-1. -/
theorem test_method7_code : staged 3 0 0 0 [0x50, 0x58, 0x02, 0x00, 0x02, 0x00, 0x07, 0x78, 0x01, 0x01, 0x0e, 0x00,
    0xf1, 0xff, 0x00, 0x0a, 0x14, 0x1e, 0x0b, 0x16, 0x21, 0x00, 0x0c, 0x18, 0x24, 0x0d, 0x1a, 0x27, 0x06, 0xd8,
    0x01, 0x15] .flags = some (imageX, none) := by decide +kernel

/-- V-RT-1. -/
theorem test_method8_code : staged 3 0 0 0 [0x50, 0x58, 0x02, 0x00, 0x02, 0x00, 0x08, 0x78, 0x01, 0x01, 0x11, 0x00,
    0xee, 0xff, 0x00, 0x01, 0x0a, 0x14, 0x1e, 0x01, 0x0b, 0x16, 0x21, 0x01, 0x0c, 0x18, 0x24, 0x01, 0x0d, 0x1a,
    0x27, 0x08, 0x05, 0x01, 0x19] .flags = some (imageX, none) := by decide +kernel

/-- V-RT-1. -/
theorem test_method9_code : staged 3 0 0 0 [0x50, 0x58, 0x02, 0x00, 0x02, 0x00, 0x09, 0x78, 0x01, 0x01, 0x19, 0x00,
    0xe6, 0xff, 0x78, 0x01, 0x01, 0x0e, 0x00, 0xf1, 0xff, 0x00, 0x0a, 0x14, 0x1e, 0x0b, 0x16, 0x21, 0x00, 0x0c,
    0x18, 0x24, 0x0d, 0x1a, 0x27, 0x06, 0xd8, 0x01, 0x15, 0x40, 0xc6, 0x04, 0x81] .flags = some (imageX, none) := by
    decide +kernel

/-- V-RT-1. -/
theorem test_method10_code : staged 3 0 0 0 [0x50, 0x58, 0x02, 0x00, 0x02, 0x00, 0x0a, 0x78, 0x01, 0x01, 0x19, 0x00,
    0xe6, 0xff, 0x78, 0x01, 0x01, 0x0e, 0x00, 0xf1, 0xff, 0x00, 0x0a, 0x14, 0x1e, 0x0b, 0x16, 0x21, 0x00, 0x0c,
    0x18, 0x24, 0x0d, 0x1a, 0x27, 0x06, 0xd8, 0x01, 0x15, 0x40, 0xc6, 0x04, 0x81] .flags = some (imageX, none) := by
    decide +kernel

/-- V-FIL-20, first row. -/
theorem test_filter_tag1_code : staged 0x15 2 1 3 [0x01, 0x0a, 0x14, 0x1e, 0x01, 0x02, 0x03] .rowTag = some ([0x0a,
    0x14, 0x1e, 0x0b, 0x16, 0x21], none) := by decide +kernel

/-- V-FIL-19, first row. -/
theorem test_filter_tag0_code : staged 0x15 2 1 3 [0x00, 0x0a, 0x14, 0x1e, 0x0b, 0x16, 0x21] .rowTag = some ([0x0a,
    0x14, 0x1e, 0x0b, 0x16, 0x21], none) := by decide +kernel

/-- V-FIL-21. -/
theorem test_filter_tag2_code : staged 0x15 2 1 3 [0x02, 0x0a, 0x14, 0x1e, 0x0b, 0x16, 0x21] .rowTag = some ([0x0a,
    0x14, 0x1e, 0x0b, 0x16, 0x21], none) := by decide +kernel

/-- V-FIL-22. -/
theorem test_filter_tag3_code : staged 0x15 2 1 3 [0x03, 0x0a, 0x14, 0x1e, 0x0b, 0x16, 0x21] .rowTag = some ([0x0a,
    0x14, 0x1e, 0x10, 0x20, 0x30], none) := by decide +kernel

/-- V-FIL-23. -/
theorem test_filter_tag4_code : staged 0x15 2 1 3 [0x04, 0x0a, 0x14, 0x1e, 0x0b, 0x16, 0x21] .rowTag = some ([0x0a,
    0x14, 0x1e, 0x15, 0x2a, 0x3f], none) := by decide +kernel

/-- What a method-4 tag leaves: the residual stream of B2 after it (V-M-4), as a 2x1 image. -/
def taggedStream (tag : Byte) : Option (Bytes × Option ErrKind) :=
  let s := running 3 0 0 0 0x40 []
  let payload := [tag, 0x78, 0x01, 0x01, 0x06, 0x00, 0xf9, 0xff, 0x0a, 0x14, 0x1e, 0x00, 0x00, 0x00, 0x01, 0x1e, 0x00, 0x3d]
  match step { s with work := { Work.empty with inp := payload, w := 2, h := 1, c := 3 }, inputs := [.stage .m4Tag] } with
  | .next t => some (t.work.out, t.work.fail)
  | .fault _ => none
  | .refused _ => none

/-- V-M-4; with H = 1 the three variants agree (R206, R207). -/
theorem test_pred_tag0_code : taggedStream 0 = some (imageB2, none) := by decide +kernel

/-- V-M-4; with H = 1 the three variants agree (R206, R207). -/
theorem test_pred_tag1_code : taggedStream 1 = some (imageB2, none) := by decide +kernel

/-- V-M-4; with H = 1 the three variants agree (R206, R207). -/
theorem test_pred_tag2_code : taggedStream 2 = some (imageB2, none) := by decide +kernel

/-- V-M-21. -/
theorem test_pred_tag_corrupt : taggedStream 3 = some ([], some .corruptPayload) := by decide +kernel

/-! ## Host accesses -/

/-- The running state after one step of host access, or what stopped it. -/
def after (e : Event) (s : State) : Option State :=
  match step { s with inputs := [e] } with
  | .next t => some t
  | .fault _ => none
  | .refused _ => none

/-- P6: the second CMD write is dropped. -/
theorem test_dropped_write : (after (.busWrite 0x4000000C (wordBytes 3)) (running 1 2 1 3 0x40 imageB2)).map
    (fun t => (t.cmd, (readReg .status t).toNat, t.phase.isBusy)) = some (1, 0x09, true) := by decide +kernel

/-- R162: a word that is no instruction reads no memory; 0x00000003 is DECODE. -/
theorem test_rejected_word_reads_nothing : ([0x2003, 0x1003, 0x2004, 0x115] : List Word).all
    (fun w => decide ((running w 2 1 3 0x40 [0x50, 0x58, 2, 0, 1, 0, 0, 1]).work = Work.empty)) = true ∧
    (running 3 2 1 3 0x40 [0x50, 0x58, 2, 0, 1, 0, 0, 1]).work.inp = [0, 1] := by decide +kernel

/-- P5: rejected words. -/
theorem test_rejected_words : result 0x2003 0 0 0 0 [] = some (0x706, 0, []) ∧
    result 0xB02 0 0 0 0 [] = some (0x206, 0, []) := by decide +kernel

/-- P5: ERRCODE stays after ACK. -/
theorem test_ack : (after (.busWrite 0x40000010 [0x0E, 0, 0, 0])
    (failKeeping .unsupportedMethod (running 0xB02 0 0 0 0 []))).map (fun t => (readReg .status t).toNat) =
      some 0x200 := by decide +kernel

/-- P7, CAP. -/
theorem test_read_cap : (after (.busRead 0x40000004 4) (host 0 0 0 0 [])).map (fun t => t.rdata) =
    some [0xFF, 0x07, 0x0D, 0x00] := by decide +kernel

/-- R54: a 16-bit access is refused. -/
theorem test_narrow_register_access : after (.busRead 0x40000004 2) (host 0 0 0 0 []) = none := by decide +kernel

/-- V-CMD-23 to V-CMD-25: a window that wraps, windows that meet, a window over the register block. -/
theorem test_windows : ([{ host 0 0 3 0x40 [] with srcAddr := 0xFFFFFFF0, srcLen := 0x20 },
    { host 0 0 3 0x40 [] with srcAddr := 0x403F, srcLen := 1 },
    { host 0 0 3 0x40 [] with
      cfg := { cfg with memMap := [{ base := 0, size := 0x100000000 }] }, srcAddr := 0x3FFFFFFF, srcLen := 2 }] : List State).all
      (fun s => outcome (step (accept 0x10 s)) == some (0x806, 0, [])) = true := by decide +kernel

end Sys2Proof.Tests
end

