-- ==== Sys2Proof/Tests/Witnesses.lean ====
section
/-! SUPPORT. For each statement of Certificates/Slice0/Obligations.lean that has hypotheses, a concrete state and
operands that meet them all together; where clauses meet, at the boundary values. -/

namespace Sys2Proof.Tests

set_option Elab.async false

open Sys2Proof.Machine

/-- The record of `running word w h ch cap src`. -/
def record (word w h ch cap : Word) (src : Bytes) : Latch := latch word (host w h ch cap src)

/-- The record of a 2x1 command over B2. -/
def recB2 (word : Word) : Latch := record word 2 1 3 0x40 imageB2

/-- The state in which that command runs. -/
def runB2 (word : Word) : State := running word 2 1 3 0x40 imageB2

theorem runB2_phase (word : Word) : (runB2 word).phase = .busy (recB2 word) false := rfl

/-- The container of B2 under method m with the payload given. -/
def containerB2 (m : Byte) (payload : Bytes) : Bytes := [0x50, 0x58, 2, 0, 1, 0, m] ++ payload

/-- A DECODE of that container. -/
def runDecode (m : Byte) (payload : Bytes) : State := running 3 0 0 0 0x40 (containerB2 m payload)

/-- Its record. -/
def recDecode (m : Byte) (payload : Bytes) : Latch := record 3 0 0 0 0x40 (containerB2 m payload)

/-! ## Encoding -/

theorem witness_DecodeEncodeAgree : Instr.wellFormed (.method6AdaptiveFilterZ { alpha := true }) = true := by decide

theorem witness_CommandDecodeOrder :
    (0x00002001#32).toNat / 8192 ≠ 0 ∧
    ((0x00000006#32).toNat / 8192 = 0 ∧ (0x00000006#32).toNat % 256 ∉ listedOps) ∧
    ((0x00001003#32).toNat / 4096 % 2 = 1 ∧ (0x00001003#32).toNat % 256 ∈ listedOps) ∧
    ((0x00000B02#32).toNat % 256 = 0x02 ∧ 11 ≤ (0x00000B02#32).toNat / 256 % 16) ∧
    ((0x00000312#32).toNat % 256 ∈ listedOps ∧ (0x00000312#32).toNat / 256 % 16 ∉ legalModes 0x12) ∧
    ((0x00000A02#32).toNat % 256 ∈ listedOps ∧ (0x00000A02#32).toNat / 256 % 16 ∈ legalModes 0x02) := by decide

theorem witness_ByteCodesDecode : (10#8).toNat % 16 ≤ 10 ∧ 10 < (11#8).toNat % 16 ∧ (4#8).toNat ≤ 4 ∧ 4 < (5#8).toNat ∧
    (2#8).toNat ≤ 2 ∧ 2 < (3#8).toNat := by decide

/-! ## Steps -/

theorem witness_StepRunsCommand : (runB2 0x10).phase = .busy (recB2 0x10) false ∧ (runB2 0x10).inputs = [] ∧
    decodeCmd (recB2 0x10).word = .instr .rlePack ∧ Instr.rlePack.wellFormed = true :=
  ⟨rfl, rfl, by decide, by decide⟩

theorem witness_StepRunsByteCode :
    let s : State := { runDecode 0x00 imageB2 with inputs := [.stage .flags] }
    s.phase = .busy (recDecode 0x00 imageB2) false ∧ s.work.fail = none ∧ s.work.inp = 0x00 :: imageB2 ∧
      byteCode .flags 0x00 = some (.flags 0x00) ∧
      Sys2Proof.decode (.flags 0x00) = .instr (.method0Identity { alpha := false }) :=
  ⟨rfl, by decide +kernel, by decide +kernel, rfl, by decide⟩

theorem witness_AcceptStep :
    let s : State := { host 2 1 3 0x40 imageB2 with inputs := [.busWrite (regAddr cfg .cmd) (wordBytes 0x00000A02)] }
    s.phase = .idle ∧ s.inputs = .busWrite (regAddr s.cfg .cmd) (wordBytes 0x00000A02) :: [] ∧
      (0x00000A02#32).toNat % 256 = 2 ∧ decodeCmd 0x00000A02 = .instr .encodeM10 :=
  ⟨rfl, rfl, by decide, by decide⟩

theorem witness_DroppedSubmission :
    let s : State := { runB2 0x01 with inputs := [.busWrite (regAddr cfg .cmd) (wordBytes 3)] }
    s.phase = .busy (recB2 0x01) false ∧ s.inputs = .busWrite (regAddr s.cfg .cmd) (wordBytes 3) :: [] := ⟨rfl, rfl⟩

/-- Reads at the first and the last offset, and writes of the first and the last read-only register. -/
theorem witness_RegisterAccess :
    (0x00, (0x5058010A : Word)) ∈ [(0x00, (0x5058010A : Word)), (0x3C, (runB2 0x01).resCh)] ∧
    (let s : State := { runB2 0x01 with inputs := [.busRead (BitVec.ofNat 32 (cfg.engineBase + 0x00)) 4] }
     s.inputs = .busRead (BitVec.ofNat 32 (s.cfg.engineBase + 0x00)) 4 :: []) ∧
    (let s : State := { runB2 0x01 with inputs := [.busRead (BitVec.ofNat 32 (cfg.engineBase + (0x40 + 4 * 10))) 4] }
     s.inputs = .busRead (BitVec.ofNat 32 (s.cfg.engineBase + (0x40 + 4 * (10 : Fin 11).val))) 4 :: []) :=
  ⟨by simp, rfl, rfl⟩

theorem witness_RegisterAccess_write :
    0x00 ∈ [0x00, 0x04, 0x24, 0x34, 0x38, 0x3C] ∧
    (let s : State := { runB2 0x01 with inputs := [.busWrite (BitVec.ofNat 32 (cfg.engineBase + 0x00)) (wordBytes 3)] }
     s.inputs = .busWrite (BitVec.ofNat 32 (s.cfg.engineBase + 0x00)) (wordBytes 3) :: []) ∧
    (let s : State :=
      { runB2 0x01 with inputs := [.busWrite (BitVec.ofNat 32 (cfg.engineBase + (0x40 + 4 * 10))) (wordBytes 3)] }
     s.inputs = .busWrite (BitVec.ofNat 32 (s.cfg.engineBase + (0x40 + 4 * (10 : Fin 11).val))) (wordBytes 3) :: []) :=
  ⟨by decide, rfl, rfl⟩

theorem witness_ReservedOffsets :
    let s : State := { runB2 0x01 with inputs := [.busRead (BitVec.ofNat 32 (cfg.engineBase + 0xFC)) 4] }
    0x6C ≤ 0xFC ∧ 0xFC ≤ 0xFC ∧ 0xFC % 4 = 0 ∧
      s.inputs = .busRead (BitVec.ofNat 32 (s.cfg.engineBase + 0xFC)) 4 :: [] := ⟨by decide, by decide, by decide, rfl⟩

theorem witness_ReservedOffsets_write :
    let s : State := { runB2 0x01 with inputs := [.busWrite (BitVec.ofNat 32 (cfg.engineBase + 0x6C)) (wordBytes 1)] }
    0x6C ≤ 0x6C ∧ 0x6C ≤ 0xFC ∧ 0x6C % 4 = 0 ∧
      s.inputs = .busWrite (BitVec.ofNat 32 (s.cfg.engineBase + 0x6C)) (wordBytes 1) :: [] :=
  ⟨by decide, by decide, by decide, rfl⟩

/-- A write of 3 bytes at the base, and an unaligned read that reaches into the block by one byte. -/
theorem witness_BadRegisterAccess :
    (∃ x, (0x40000000#32).toNat ≤ x ∧ x < (0x40000000#32).toNat + [1, 2, (3 : Byte)].length ∧ cfg.inBlock x = true) ∧
    ¬([1, 2, (3 : Byte)].length = 4 ∧ (0x40000000#32).toNat % 4 = 0) ∧
    (∃ x, (0x3FFFFFFD#32).toNat ≤ x ∧ x < (0x3FFFFFFD#32).toNat + 4 ∧ cfg.inBlock x = true) ∧
    ¬(4 = 4 ∧ (0x3FFFFFFD#32).toNat % 4 = 0) :=
  ⟨⟨0x40000000, by decide⟩, by decide, ⟨0x40000000, by decide⟩, by decide⟩

theorem witness_StatusWrite :
    let s : State := { runB2 0x01 with inputs := [.busWrite (regAddr cfg .status) (wordBytes 0x0000000E)] }
    s.inputs = .busWrite (regAddr s.cfg .status) (wordBytes 0x0000000E) :: [] ∧ (0x0000000E#32).getLsbD 1 = true :=
  ⟨rfl, by decide⟩

theorem witness_HostRegisterWrites (r : Reg) :
    let s : State := { runB2 0x01 with inputs := [.busWrite (regAddr cfg r) (wordBytes 0x7FFFFFFF)] }
    s.inputs = .busWrite (regAddr s.cfg r) (wordBytes 0x7FFFFFFF) :: [] ∧ (0x7FFFFFFF#32).getLsbD 31 = false :=
  ⟨rfl, by decide⟩

/-! ## Reset -/

theorem witness_ResetStep : (0x80000000#32).getLsbD 31 = true ∧ (runB2 0x01).phase = .busy (recB2 0x01) false ∧
    (runB2 0x01).mem.wf = true ∧ (host 2 1 3 0x40 imageB2).phase = .idle :=
  ⟨by decide, rfl, by decide +kernel, rfl⟩

/-- A host whose destination window starts at the last byte of its source window. -/
def hostOverlap : State := { host 2 1 3 0x40 imageB2 with dstAddr := 0x1005 }

/-- Reset of a command whose windows share an address, before its checks: that byte is unchanged (R491). -/
theorem witness_ResetStep_overlap : (accept 0x01 hostOverlap).phase = .busy (latch 0x01 hostOverlap) false ∧
    (accept 0x01 hostOverlap).mem.wf = true ∧ (latch 0x01 hostOverlap).inSrc 0x1005 = true ∧
    (latch 0x01 hostOverlap).inDst 0x1005 = true :=
  ⟨rfl, by decide +kernel, by decide, by decide⟩

/-! ## Operand checks -/

theorem witness_OperandCheckOrder_channels : (running 0x10 2 1 5 0x40 imageB2).phase =
      .busy (record 0x10 2 1 5 0x40 imageB2) false ∧ Instr.rlePack ∈ channelReaders ∧
    (record 0x10 2 1 5 0x40 imageB2).ch ≠ 3 ∧ (record 0x10 2 1 5 0x40 imageB2).ch ≠ 4 :=
  ⟨rfl, by decide, by decide, by decide⟩

/-- A host whose destination window ends one byte past the memory at 0xFFFF. -/
def hostPastEnd : State := { host 2 1 3 0x41 imageB2 with dstAddr := 0xFFC0 }

theorem witness_OperandCheckOrder_windows : (accept 0x10 hostPastEnd).phase = .busy (latch 0x10 hostPastEnd) false ∧
    Instr.rlePack.format = .cmd ∧
    (Instr.rlePack ∈ channelReaders → (latch 0x10 hostPastEnd).ch = 3 ∨ (latch 0x10 hostPastEnd).ch = 4) ∧
    chkWin cfg (latch 0x10 hostPastEnd) ≠ .ok () :=
  ⟨rfl, rfl, fun _ => .inl rfl, by decide +kernel⟩

theorem witness_OperandCheckOrder_geometry : (running 0x12 65536 1 4 0x40 imageB2).phase =
      .busy (record 0x12 65536 1 4 0x40 imageB2) false ∧ Instr.predEncDelta ∈ geometryReaders ∧
    (record 0x12 65536 1 4 0x40 imageB2).ch = 4 ∧ chkWin cfg (record 0x12 65536 1 4 0x40 imageB2) = .ok () ∧
    65535 < (record 0x12 65536 1 4 0x40 imageB2).w.toNat :=
  ⟨rfl, by decide, rfl, by decide +kernel, by decide⟩

theorem witness_SourceLengthChecks : (running 0x10 2 1 3 0x40 [1, 2, 3, 4, 5]).phase =
      .busy (record 0x10 2 1 3 0x40 [1, 2, 3, 4, 5]) false ∧
    (record 0x10 2 1 3 0x40 [1, 2, 3, 4, 5]).ch = 3 ∧
    chkWin cfg (record 0x10 2 1 3 0x40 [1, 2, 3, 4, 5]) = .ok () ∧
    (record 0x10 2 1 3 0x40 [1, 2, 3, 4, 5]).srcLen.toNat % (record 0x10 2 1 3 0x40 [1, 2, 3, 4, 5]).ch.toNat ≠ 0 ∧
    (record 0x10 2 1 3 0x40 [1, 2, 3, 4, 5]).w.toNat ≤ 65535 ∧
    (record 0x10 2 1 3 0x40 [1, 2, 3, 4, 5]).h.toNat ≤ 65535 ∧
    (record 0x10 2 1 3 0x40 [1, 2, 3, 4, 5]).w.toNat * (record 0x10 2 1 3 0x40 [1, 2, 3, 4, 5]).h.toNat ≤
      cfg.maxPixels ∧
    (record 0x10 2 1 3 0x40 [1, 2, 3, 4, 5]).srcLen.toNat < 2 * 1 * 3 :=
  ⟨rfl, rfl, by decide +kernel, by decide, by decide, by decide, by decide +kernel, by decide⟩

theorem witness_SourceLengthChecks_width : (running 0x213 0 1 3 0x40 [1]).phase =
      .busy (record 0x213 0 1 3 0x40 [1]) false ∧ (record 0x213 0 1 3 0x40 [1]).ch = 3 ∧
    chkWin cfg (record 0x213 0 1 3 0x40 [1]) = .ok () ∧ (record 0x213 0 1 3 0x40 [1]).w = 0 ∧
    0 < (record 0x213 0 1 3 0x40 [1]).srcLen.toNat :=
  ⟨rfl, rfl, by decide +kernel, rfl, by decide⟩

/-- An illegal word with no input left, and an ENCODE_M 11 at an engine turn in the schedule. -/
theorem witness_RejectedCommandWord : (runB2 0x2001).phase = .busy (recB2 0x2001) false ∧ (runB2 0x2001).inputs = [] ∧
    decodeCmd (recB2 0x2001).word = .illegal ∧
    (let s : State := { runB2 0xB02 with inputs := [.engine, .busRead 0 4] }
     s.phase = .busy (recB2 0xB02) false ∧ s.inputs = .engine :: [.busRead 0 4]) ∧
    decodeCmd (recB2 0xB02).word = .unsupported 11 :=
  ⟨rfl, rfl, by decide, ⟨rfl, rfl⟩, by decide⟩

/-! ## Ready commands, one for each set of checks -/

theorem ready_encode : Ready checksEncode (recB2 0x01) (runB2 0x01) :=
  ⟨by decide +kernel, rfl, by decide +kernel, by decide +kernel⟩
theorem ready_pixels : Ready checksPixels (recB2 0x10) (runB2 0x10) :=
  ⟨by decide +kernel, rfl, by decide +kernel, by decide +kernel⟩
theorem ready_stream : Ready checksStream (recB2 0x11) (runB2 0x11) :=
  ⟨by decide +kernel, rfl, by decide +kernel, by decide +kernel⟩
theorem ready_image : Ready checksImage (recB2 0x12) (runB2 0x12) :=
  ⟨by decide +kernel, rfl, by decide +kernel, by decide +kernel⟩
theorem ready_residuals (v : Variant) : Ready (checksResiduals v) (recB2 0x213) (runB2 0x213) :=
  ⟨by decide +kernel, rfl, by cases v <;> decide +kernel, by decide +kernel⟩
theorem ready_filter_stream : Ready checksFilterStream (recB2 0x15) (runB2 0x15) :=
  ⟨by decide +kernel, rfl, by decide +kernel, by decide +kernel⟩
theorem ready_windows : Ready checksWindows (recB2 0x16) (runB2 0x16) :=
  ⟨by decide +kernel, rfl, by decide +kernel, by decide +kernel⟩
theorem ready_decode_0 : Ready checksWindows (recDecode 0 imageB2) (runDecode 0 imageB2) :=
  ⟨by decide +kernel, rfl, by decide +kernel, by decide +kernel⟩
theorem ready_decode_6 : Ready checksWindows (recDecode 6 imageB2) (runDecode 6 imageB2) :=
  ⟨by decide +kernel, rfl, by decide +kernel, by decide +kernel⟩

/-! ## Completion -/

/-- A RLE_PACK that completes. -/
theorem next_rlePack : exec .rlePack (runB2 0x10) = .next (finishCommand (recB2 0x10) false
    (ruleRlePack cfg (recB2 0x10) (source (recB2 0x10) (runB2 0x10))) (runB2 0x10)) :=
  runCommand_ok (checks := checksPixels) (rule := ruleRlePack) (s := runB2 0x10) (l := recB2 0x10) (tainted := false)
    rfl (by decide +kernel) (by decide +kernel)

theorem witness_CommandFrame : (runB2 0x10).mem.wf = true ∧ (runB2 0x10).phase = .busy (recB2 0x10) false ∧
    ∃ t, exec .rlePack (runB2 0x10) = .next t := ⟨by decide +kernel, rfl, _, next_rlePack⟩

/-- A RLE_UNPACK that fails, its last pair cut. -/
theorem witness_ErrorCompletion : (runB2 0x11).phase = .busy (recB2 0x11) false ∧ (runB2 0x11).mem.wf = true ∧
    ∃ t, exec .rleUnpack (runB2 0x11) = .next t ∧ t.status.err = true :=
  ⟨rfl, by decide +kernel, _, runCommand_ok (checks := checksStream) (rule := ruleRleUnpack) (s := runB2 0x11)
    (l := recB2 0x11) (tainted := false) rfl (by decide +kernel) (by decide +kernel), by decide +kernel⟩

/-- An ENCODE and an ENCODE_M 10 whose container does not fit a window of 5 bytes, and an ENCODE_M 10 that a check
rejects. -/
theorem witness_ErrorCompletion_encode :
    (∃ t, exec .encode (running 1 2 1 3 5 imageB2) = .next t ∧ t.status.err = true) ∧
    checksOf .encode cfg (record 1 2 1 3 5 imageB2) = .ok () ∧
    (10, Instr.encodeM10) ∈ encodeMRows ∧
    (∃ t, exec .encodeM10 (running 0xA02 2 1 3 5 imageB2) = .next t ∧ t.status.err = true) ∧
    checksOf .encodeM10 cfg (record 0xA02 2 1 3 5 imageB2) = .ok () ∧
    checksOf .encodeM10 cfg (record 0xA02 2 1 5 5 imageB2) = .error .illegalCommand :=
  ⟨⟨_, runCommand_ok (checks := checksEncode) (rule := ruleEncode) (s := running 1 2 1 3 5 imageB2)
      (l := record 1 2 1 3 5 imageB2) (tainted := false) rfl (by decide +kernel) (by decide +kernel),
      by decide +kernel⟩, by decide +kernel, by decide,
    ⟨_, runCommand_ok (checks := checksEncode) (rule := ruleEncodeM 10) (s := running 0xA02 2 1 3 5 imageB2)
      (l := record 0xA02 2 1 3 5 imageB2) (tainted := false) rfl (by decide +kernel) (by decide +kernel),
      by decide +kernel⟩, by decide +kernel, by decide +kernel⟩

/-- A command that passes its checks with its source window on a device. -/
theorem witness_OnlyDeviceWindowsStop :
    let s : State := { runB2 0x10 with
      cfg := { cfg with memMap := [{ base := 0x1000, size := 0x10, ordinary := false }, { base := 0x4000, size := 0x40 }] } }
    Instr.rlePack.format = .cmd ∧ s.phase = .busy (recB2 0x10) false ∧
      checksOf .rlePack s.cfg (recB2 0x10) = .ok () ∧ (recB2 0x10).inSrc 0x1000 = true ∧
      s.cfg.isDevice 0x1000 = true :=
  ⟨rfl, rfl, by decide +kernel, by decide, by decide⟩

/-- A host write of the last byte of the source window. -/
theorem witness_BufferHazard :
    let s : State := { runB2 0x01 with inputs := [.busWrite 0x1005 [7]] }
    s.mem.wf = true ∧ s.phase = .busy (recB2 0x01) false ∧
      (∀ x, (0x1005#32).toNat ≤ x → x < (0x1005#32).toNat + [(7 : Byte)].length →
        holdsMemory s.cfg x = true ∧ s.cfg.isDevice x = false) ∧ (recB2 0x01).inSrc 0x1005 = true := by
  refine ⟨by decide +kernel, rfl, fun x h1 h2 => ?_, by decide⟩
  obtain rfl : x = 0x1005 := by simp at h1 h2; omega
  exact ⟨by decide +kernel, by decide +kernel⟩

/-- A read across the end of the destination window 0x4000 to 0x403F. -/
theorem witness_HostRead :
    let s : State := { runB2 0x01 with inputs := [.busRead 0x403F 2] }
    (∀ x, (0x403F#32).toNat ≤ x → x < (0x403F#32).toNat + 2 →
        holdsMemory s.cfg x = true ∧ s.cfg.isDevice x = false) ∧
      (recB2 0x01).inDst 0x403F = true ∧ (recB2 0x01).inDst 0x4040 = false := by
  refine ⟨fun x h1 h2 => ?_, by decide, by decide⟩
  obtain rfl | rfl : x = 0x403F ∨ x = 0x4040 := by simp at h1 h2; omega
  · exact ⟨by decide +kernel, by decide +kernel⟩
  · exact ⟨by decide +kernel, by decide +kernel⟩

theorem witness_Progress : (runB2 0x2001).phase = .busy (recB2 0x2001) false ∧ (runB2 0x2001).inputs = [] ∧
    (recB2 0x2001).overDevice (runB2 0x2001).cfg = false := ⟨rfl, rfl, by decide +kernel⟩

/-- Two states that differ outside the record, the parameters and the source. -/
theorem witness_ResultDependsOnSource :
    let s₁ := runB2 0x10
    let s₂ : State := { runB2 0x10 with irqEn := true, srcAddr := 9, mem := (runB2 0x10).mem.put 0x2000 5 }
    s₁.mem.wf = true ∧ s₂.mem.wf = true ∧ s₁.phase = s₂.phase ∧ s₁.cfg = s₂.cfg ∧
      source (recB2 0x10) s₁ = source (recB2 0x10) s₂ ∧ (∃ t, exec .rlePack s₁ = .next t) ∧
      (∃ t, exec .rlePack s₂ = .next t) :=
  ⟨by decide +kernel, by decide +kernel, rfl, rfl, by decide +kernel, ⟨_, next_rlePack⟩,
    ⟨_, runCommand_ok (checks := checksPixels) (rule := ruleRlePack)
      (s := { runB2 0x10 with irqEn := true, srcAddr := 9, mem := (runB2 0x10).mem.put 0x2000 5 }) (l := recB2 0x10)
      (tainted := false) rfl (by decide +kernel) (by decide +kernel)⟩⟩

theorem witness_PoolSizeInvisible : ∃ t, exec .rlePack (runB2 0x10) = .next t := ⟨_, next_rlePack⟩

/-! ## Invariants -/

/-- A BUSY state with the invariant, from which a step is taken. -/
theorem witness_StepKeepsInvariant : Inv (runB2 0x10) ∧ ∃ t, step (runB2 0x10) = .next t := by
  have h : ((runB2 0x10).mem.all fun c => holdsMemory (runB2 0x10).cfg c.1) = true := by decide +kernel
  have hp : PhaseInv (runB2 0x10) := ⟨rfl, by decide +kernel, fun h => absurd h (by decide +kernel)⟩
  exact ⟨⟨⟨by decide +kernel, List.all_eq_true.1 h⟩, hp⟩, _, next_rlePack⟩

/-! ## Image commands -/

/-- ENCODE_M 0 succeeds; ENCODE_M 5 on 257 colours fails (V-PAL-2). -/
theorem witness_EncodeForced : (0, Instr.encodeM0) ∈ encodeMRows ∧
    encMethod cfg 0 imageB2 2 1 3 = .ok imageB2 ∧ raw ((source (recB2 0x02) (runB2 0x02)).take 6) 3 =
      { bytes := imageB2, ch := 3, alpha := false } := ⟨by decide, rfl, by decide +kernel⟩

/-- ENCODE of four channels: with an alpha byte that is not 255, and with none. -/
theorem witness_Encode : Ready checksEncode (record 1 1 1 4 0x40 [1, 2, 3, 254]) (running 1 1 1 4 0x40 [1, 2, 3, 254]) ∧
    natAt [1, 2, 3, 254] (4 * 0 + 3) ≠ 255 ∧ (raw [1, 2, 3, 254] 4).alpha = true ∧
    Ready checksEncode (record 1 1 1 4 0x40 [1, 2, 3, 255]) (running 1 1 1 4 0x40 [1, 2, 3, 255]) ∧
    raw [1, 2, 3, 255] 4 = { bytes := [1, 2, 3], ch := 3, alpha := false } :=
  ⟨⟨by decide +kernel, rfl, by decide +kernel, by decide +kernel⟩, by decide, by decide,
    ⟨by decide +kernel, rfl, by decide +kernel, by decide +kernel⟩, by decide⟩

/-- 257 pixels, no two equal. -/
def colours257 : Bytes := (List.range 257).flatMap fun j => [byteOf j, byteOf (j / 256), 0]

theorem foldl_nodup (ps T : List Bytes) (h : (T ++ ps).Nodup) :
    ps.foldl (fun T p => if p ∈ T then T else T ++ [p]) T = T ++ ps := by
  induction ps generalizing T with
  | nil => simp
  | cons p ps ih =>
    have hp : p ∉ T := fun hm => List.nodup_append.1 h |>.2.2 p hm p (by simp) rfl
    rw [List.foldl_cons, if_neg hp, ih _ (by simpa using h), List.append_assoc]
    rfl

theorem px_colours257 : px colours257 3 = (List.range 257).map fun j => [byteOf j, byteOf (j / 256), 0] := by
  decide +kernel

theorem witness_EncodeFailures : 256 < distinct colours257 3 := by
  have h : (px colours257 3).Nodup := by
    rw [px_colours257]
    refine List.Nodup.map_on (fun i hi j hj e => ?_) List.nodup_range
    simp only [List.cons.injEq, byteOf, ← BitVec.toNat_inj, BitVec.toNat_ofNat] at e
    simp only [List.mem_range] at hi hj
    omega
  rw [distinct, palTable, foldl_nodup _ [] (by simpa using h), px_colours257]
  simp

theorem witness_ShortestStream : zdecode none [0x78, 0x9c, 0x03, 0, 0, 0, 0, 1] = .ok [] ∧
    (∃ Y, encMethod cfg 2 [1, 2, 3] 1 1 3 = .ok Y) ∧ (∃ Y, encMethod cfg 4 [1, 2, 3] 1 1 3 = .ok Y) :=
  ⟨by decide +kernel, ⟨(encMethod cfg 2 [1, 2, 3] 1 1 3).toOption.getD [], by decide +kernel⟩,
    ⟨(encMethod cfg 4 [1, 2, 3] 1 1 3).toOption.getD [], by decide +kernel⟩⟩

/-- Good headers before an end, a block of type 3, and a stored block with a bad length pair; and a bad header. -/
theorem witness_ShortestStream_rejects :
    (0x78 * 256 + 0x01) % 31 = 0 ∧ 0x78 % 16 = 8 ∧ ¬7 < 0x78 / 16 ∧ (0x01#8).getLsbD 5 = false ∧
    (0x07#8).toNat / 2 % 4 = 3 ∧ (0x01#8).toNat / 2 % 4 = 0 ∧ 1 + 256 * 0 + (0xFF + 256 * 0xFF) ≠ 0xFFFF ∧
    (0x78 * 256 + 0x02) % 31 ≠ 0 := by decide

theorem witness_SmallImagesChooseIdentity : [1, 2, 3, 4, 5, 6, 7, (8 : Byte)].length ≤ 8 := by decide

/-- A header that passes its checks, with pixels and without. -/
theorem witness_Decode : parseHeader (source (recDecode 0 imageB2) (runDecode 0 imageB2)) =
      .ok { w := 2, h := 1, method := 0, alpha := false } ∧ 2 * 1 ≤ cfg.maxPixels ∧
    2 * 1 * 3 ≤ (recDecode 0 imageB2).dstCap.toNat ∧
    Ready checksWindows (record 3 0 0 0 0 [0x50, 0x58, 0, 0, 5, 0, 7]) (running 3 0 0 0 0 [0x50, 0x58, 0, 0, 5, 0, 7]) ∧
    parseHeader (source (record 3 0 0 0 0 [0x50, 0x58, 0, 0, 5, 0, 7]) (running 3 0 0 0 0 [0x50, 0x58, 0, 0, 5, 0, 7])) =
      .ok { w := 0, h := 5, method := 7, alpha := false } :=
  ⟨by decide +kernel, by decide +kernel, by decide +kernel,
    ⟨by decide +kernel, rfl, by decide +kernel, by decide +kernel⟩, by decide +kernel⟩

/-- A source that is no container; a capacity one byte short; an image over MAX_PIXELS. -/
theorem witness_DecodeChecks : parseHeader (source (recB2 0x16) (runB2 0x16)) = .error .badMagic ∧
    Ready checksWindows (record 3 0 0 0 5 (containerB2 0 imageB2)) (running 3 0 0 0 5 (containerB2 0 imageB2)) ∧
    (record 3 0 0 0 5 (containerB2 0 imageB2)).dstCap.toNat < 2 * 1 * 3 ∧
    (let s : State := { runDecode 0 imageB2 with cfg := { cfg with maxPixels := 1 } }
     Ready checksWindows (recDecode 0 imageB2) s ∧
       parseHeader (source (recDecode 0 imageB2) s) = .ok { w := 2, h := 1, method := 0, alpha := false } ∧
       s.cfg.maxPixels < 2 * 1) :=
  ⟨by decide +kernel, ⟨by decide +kernel, rfl, by decide +kernel, by decide +kernel⟩, by decide,
    ⟨by decide +kernel, rfl, by decide +kernel, by decide +kernel⟩, by decide +kernel, by decide +kernel⟩

/-- Seven bytes, six bytes, and a wrong magic; method ids 10 and 11. -/
theorem witness_HeaderParse : ([0x50, 0x58, 2, 0, 1, 0, 0x0A] : Bytes) = [0x50, 0x58, 2, 0, 1, 0, 0x0A] ++ [] ∧
    (0x0A#8).toNat % 16 ≤ 10 ∧ 10 < (0x0B#8).toNat % 16 ∧ ([2, 0, 1, 0] : Bytes).length < 5 ∧
    ¬∃ tl, ([0x50, 0x59] : Bytes) = 0x50 :: 0x58 :: tl := ⟨rfl, by decide, by decide, by decide, by rintro ⟨tl, h⟩; simp at h⟩

/-- Method 0 is in FAST_SUBSET, method 6 is not. -/
theorem witness_FastDecode : parseHeader (source (recDecode 0 imageB2) (runDecode 0 imageB2)) =
      .ok { w := 2, h := 1, method := 0, alpha := false } ∧ cfg.inFast 0 = true ∧
    parseHeader (source (recDecode 6 imageB2) (runDecode 6 imageB2)) =
      .ok { w := 2, h := 1, method := 6, alpha := false } ∧ cfg.inFast 6 = false :=
  ⟨by decide +kernel, by decide +kernel, by decide +kernel, by decide +kernel⟩

/-! ## Stage commands -/

/-- Every set of checks is met with a finite SCRATCH_BYTES too. -/
theorem witness_BoundedOutcome :
    let s (word : Word) : State := { runB2 word with cfg := { cfg with scratch := some 100 } }
    Ready checksPixels (recB2 0x10) (s 0x10) ∧ Ready checksStream (recB2 0x11) (s 0x11) ∧
      Ready checksImage (recB2 0x12) (s 0x12) ∧ Ready (checksResiduals .paeth) (recB2 0x213) (s 0x213) ∧
      Ready checksFilterStream (recB2 0x15) (s 0x15) :=
  ⟨⟨by decide +kernel, rfl, by decide +kernel, by decide +kernel⟩,
    ⟨by decide +kernel, rfl, by decide +kernel, by decide +kernel⟩,
    ⟨by decide +kernel, rfl, by decide +kernel, by decide +kernel⟩,
    ⟨by decide +kernel, rfl, by decide +kernel, by decide +kernel⟩,
    ⟨by decide +kernel, rfl, by decide +kernel, by decide +kernel⟩⟩

theorem witness_PredictorCommands : (Variant.paeth, Instr.predEncPaeth) ∈ predEncRows ∧
    (Variant.paeth, Instr.predDecPaeth) ∈ predDecRows := by decide

theorem witness_FilterCommands : (Filter.paeth, Instr.filtEncPaeth) ∈ filtEncRows := by decide

/-- Unbounded and finite SCRATCH_BYTES. -/
theorem witness_EntropyCommands : (Strategy.huffmanOnly, Instr.zencHuffman) ∈ zencRows ∧ cfg.scratch = none ∧
    (let s : State := { runB2 0x16 with cfg := { cfg with scratch := some 100 } }
     Ready checksWindows (recB2 0x16) s ∧ s.cfg.scratch ≠ none) :=
  ⟨by decide, rfl, ⟨by decide +kernel, rfl, by decide +kernel, by decide +kernel⟩, by decide⟩

/-! ## Byte codes -/

theorem witness_MethodCodes : (10, Instr.method10UniformFilterZ2 { alpha := false }) ∈ methodRows { alpha := false } ∧
    (runDecode 10 imageB2).phase = .busy (recDecode 10 imageB2) false ∧
    (runDecode 10 imageB2).work.w * (runDecode 10 imageB2).work.h ≠ 0 ∧ (runB2 0x10).work.w * (runB2 0x10).work.h = 0 :=
  ⟨by decide, rfl, by decide +kernel, by decide +kernel⟩

theorem witness_TagCodes : (Filter.paeth, Instr.filterTag4Paeth) ∈ rowTagRows ∧
    (Variant.paeth, Instr.predTag2Paeth) ∈ m4TagRows ∧ (runB2 0x15).phase = .busy (recB2 0x15) false ∧
    cfg.scratch = none := ⟨by decide, by decide, rfl, rfl⟩

/-- FILT_DEC of a two-row stream, one stage turn for each of its bytes. -/
theorem witness_RowTagsRebuildStream :
    let src : Bytes := [1, 0x0a, 0x14, 0x1e, 1, 2, 3, 2, 1, 2, 3, 1, 2, 3]
    let s : State := { running 0x15 2 2 3 0x40 src with inputs := List.replicate 14 (.stage .rowTag) }
    s.phase = .busy (record 0x15 2 2 3 0x40 src) false ∧ s.work.fail = none ∧ s.work.out = [] ∧
      s.work.above = zeros (s.work.w * s.work.c) ∧
      s.inputs = List.replicate s.work.inp.length (.stage .rowTag) :=
  ⟨rfl, by decide +kernel, by decide +kernel, by decide +kernel, by decide +kernel⟩

/-! ## Laws -/

theorem witness_RleRoundTrip : 0 < 3 ∧ imageX.length % 3 = 0 := by decide
theorem witness_RleRuns : 0 < 3 ∧ imageX.length % 3 = 0 ∧ ([1, 2] : Bytes).length < 3 := by decide
theorem witness_PredictorLaws : 0 < 3 ∧ 0 < 2 ∧ 0 < imageX.length ∧ (Variant.paeth = .paeth → 0 < 0 ∨ ([] : Bytes) = []) := by
  decide
theorem witness_PaletteTable_lookup : 256 < (1#8).toNat + 256 * (1#8).toNat ∧ (2#8).toNat + 256 * (0#8).toNat ≤ 256 ∧
    ([1, 2, 3] : Bytes).length < 2 * 3 ∧ ([1, 2, 3, 4, 5, 6] : Bytes).length = 2 * 3 ∧
    2 ≤ (2#8).toNat ∧ (1#8).toNat < 2 := by decide
theorem witness_PaletteRoundTrip : 0 < 3 ∧ imageX.length % 3 = 0 ∧ distinct imageX 3 ≤ 256 := by decide +kernel
theorem witness_PaletteTable : 256 < (palTable (px colours257 3)).length := witness_EncodeFailures
theorem witness_FilterRoundTrip : 0 < 3 ∧ imageX.length = 2 * 2 * 3 := by decide
/-- A row to reconstruct, then a stream of rows: a row of type 0 and one of type 2 as UNROW gives them, and what may
follow them, the least bad tag and the longest partial row. -/
theorem witness_FilterRowBytes :
    0 < 3 ∧ ([1, 1, 1] : Bytes).length ≤ ([0, 0, 0] : Bytes).length ∧ imageX.length = 2 * 2 * 3 ∧
    (let rows : List (Filter × Bytes) := [(.none, [1, 2, 3]), (.up, [1, 1, 1])]
     let out : List Bytes := [[1, 2, 3], [2, 3, 4]]
     (∀ x ∈ rows, x.2.length = 3) ∧ out.length = rows.length ∧
       out[0]? = some (unfilterRow .none [1, 2, 3] [0, 0, 0] 3) ∧
       out[1]? = some (unfilterRow .up [1, 1, 1] [1, 2, 3] 3)) ∧
    4 < (5#8).toNat ∧ ([7, 7] : Bytes).length < 3 := by decide

theorem witness_MethodRoundTrip : cfg.scratch = none ∧ imageX.length = 2 * 2 * 3 ∧
    encMethod cfg 0 imageX 2 2 3 = .ok imageX := ⟨rfl, by decide, rfl⟩
theorem witness_EncodeThenDecode : cfg.scratch = none ∧ 2 * 2 ≤ cfg.maxPixels ∧ imageX.length = 2 * 2 * 3 ∧
    raw imageX 3 = { bytes := imageX, ch := 3, alpha := false } ∧ encMethod cfg 0 imageX 2 2 3 = .ok imageX ∧
    2 * 2 * 4 ≤ 16 := ⟨rfl, by decide +kernel, by decide, by decide +kernel, rfl, by decide⟩

end Sys2Proof.Tests
end

section
/-! POOL_SIZE has no visible effect (00_scope R17): every function of the parameters reads other fields than
`extraEvaluators`, so it gives the same result under every POOL_SIZE; the completions carry the parameters along; and
each instruction is one of the two frames over such functions. -/

namespace Sys2Proof

/-- The parameters `P` with POOL_SIZE n + 1 (R17). -/
def Params.withPool (P : Params) (n : Nat) : Params := { P with extraEvaluators := n }

end Sys2Proof

namespace Sys2Proof.Machine

/-- The state `s` on an engine with POOL_SIZE n + 1. -/
def State.withPool (s : State) (n : Nat) : State := { s with cfg := s.cfg.withPool n }

section
variable (P : Params) (n : Nat)

/-! ## Parameters -/

@[simp] theorem withPool_scratch : (P.withPool n).scratch = P.scratch := rfl
@[simp] theorem withPool_maxPixels : (P.withPool n).maxPixels = P.maxPixels := rfl
@[simp] theorem withPool_inBlock : (P.withPool n).inBlock = P.inBlock := rfl
@[simp] theorem withPool_memOk : (P.withPool n).memOk = P.memOk := rfl
@[simp] theorem withPool_isDevice : (P.withPool n).isDevice = P.isDevice := rfl
@[simp] theorem withPool_inFast : (P.withPool n).inFast = P.inFast := rfl
@[simp] theorem withPool_score : (P.withPool n).score = P.score := rfl
@[simp] theorem withPool_entropyEnc : (P.withPool n).entropyEnc = P.entropyEnc := rfl

/-! ## Operand checks -/

@[simp] theorem overDevice_withPool (l : Latch) : l.overDevice (P.withPool n) = l.overDevice P := by
  simp only [Latch.overDevice, onDevice, withPool_isDevice]

@[simp] theorem chkWin_withPool (l : Latch) : chkWin (P.withPool n) l = chkWin P l := by
  simp only [chkWin, onMemory, withPool_memOk, withPool_inBlock]

@[simp] theorem chkGeom_withPool (l : Latch) : chkGeom (P.withPool n) l = chkGeom P l := by
  rw [chkGeom, withPool_maxPixels, chkGeom]

/-- The operand checks read no POOL_SIZE (40_commands R163). -/
@[simp] theorem checksOf_withPool (i : Instr) (l : Latch) : checksOf i (P.withPool n) l = checksOf i P l := by
  cases i <;> simp only [checksOf, checksEncode, checksWindows, checksPixels, checksStream, checksImage,
    checksResiduals, checksFilterStream, chkWin_withPool, chkGeom_withPool]

/-! ## Stages under SCRATCH_BYTES and pipelines -/

@[simp] theorem hold_withPool (site : Site) (input : Bytes) (r : Res Bytes) :
    hold (P.withPool n) site input r = hold P site input r := by
  simp only [hold, withPool_scratch]

@[simp] theorem zenc_withPool (st : Strategy) (input x : Bytes) :
    zenc (P.withPool n) st input x = zenc P st input x := by
  simp only [zenc, hold_withPool, withPool_entropyEnc]

@[simp] theorem enc6_withPool (R : Bytes) (W H C : Nat) : enc6 (P.withPool n) R W H C = enc6 P R W H C := by
  simp only [enc6, hold_withPool, zenc_withPool, withPool_score]

@[simp] theorem enc7_withPool (R : Bytes) (W H C : Nat) : enc7 (P.withPool n) R W H C = enc7 P R W H C := by
  simp only [enc7, enc7Trial, hold_withPool, zenc_withPool]

/-- Every encode pipeline gives the same payload under every POOL_SIZE (45_encoder_selector R386). -/
@[simp] theorem encMethod_withPool (m : Nat) (R : Bytes) (W H C : Nat) :
    encMethod (P.withPool n) m R W H C = encMethod P m R W H C := by
  simp only [encMethod, enc1, enc2, enc3, enc4, enc4Trial, enc5, enc6_withPool, enc7_withPool, enc8, enc9, enc10,
    hold_withPool, zenc_withPool, withPool_score]

@[simp] theorem dec1_withPool (Y : Bytes) (C : Nat) : dec1 (P.withPool n) Y C = dec1 P Y C := by
  simp only [dec1, hold_withPool, withPool_scratch]

@[simp] theorem dec4Body_withPool (v : Variant) (Y : Bytes) (W C : Nat) :
    dec4Body (P.withPool n) v Y W C = dec4Body P v Y W C := by
  simp only [dec4Body, hold_withPool, withPool_scratch]

@[simp] theorem dec4_withPool (Y : Bytes) (W C : Nat) : dec4 (P.withPool n) Y W C = dec4 P Y W C := by
  simp only [dec4, dec4Body_withPool]

@[simp] theorem dec5_withPool (Y : Bytes) (C : Nat) : dec5 (P.withPool n) Y C = dec5 P Y C := by
  simp only [dec5, hold_withPool, withPool_scratch]

@[simp] theorem dec6_withPool (Y : Bytes) (W C : Nat) : dec6 (P.withPool n) Y W C = dec6 P Y W C := by
  simp only [dec6, hold_withPool, withPool_scratch]

@[simp] theorem dec8_withPool (Y : Bytes) (C : Nat) : dec8 (P.withPool n) Y C = dec8 P Y C := by
  simp only [dec8, hold_withPool, withPool_scratch]

@[simp] theorem dec9_withPool (Y : Bytes) (W C : Nat) : dec9 (P.withPool n) Y W C = dec9 P Y W C := by
  simp only [dec9, hold_withPool, withPool_scratch]

/-- Every decode pipeline gives the same pixels under every POOL_SIZE. -/
@[simp] theorem decMethod_withPool (m : Nat) (Y : Bytes) (W C : Nat) :
    decMethod (P.withPool n) m Y W C = decMethod P m Y W C := by
  simp only [decMethod, dec1_withPool, dec2, dec3, dec4_withPool, dec5_withPool, dec6_withPool, dec7, dec8_withPool,
    dec9_withPool, dec10, withPool_scratch]

/-! ## Selector and decoder -/

@[simp] theorem select_withPool (R : Bytes) (W H C : Nat) : select (P.withPool n) R W H C = select P R W H C := by
  simp only [select, candidates, encMethod_withPool]

@[simp] theorem decodeContainer_withPool (S : Bytes) (outRgba : Bool) (cap : Nat) (covers : Nat → Bool) :
    decodeContainer (P.withPool n) S outRgba cap covers = decodeContainer P S outRgba cap covers := by
  simp only [decodeContainer, decMethod_withPool, withPool_maxPixels]

end

/-! ## Rules -/

/-- A command's rule that answers alike under every POOL_SIZE. -/
def RuleIgnoresPool (rule : Params → Latch → Bytes → Report) : Prop :=
  ∀ P n l S, rule (P.withPool n) l S = rule P l S

theorem ruleEncode_ignoresPool : RuleIgnoresPool ruleEncode := fun P n l S => by
  simp only [ruleEncode, select_withPool]

theorem ruleEncodeM_ignoresPool (m : Nat) : RuleIgnoresPool (ruleEncodeM m) := fun P n l S => by
  simp only [ruleEncodeM, encMethod_withPool]

theorem ruleDecode_ignoresPool : RuleIgnoresPool ruleDecode := fun P n l S => by
  simp only [ruleDecode, decodeFull, decodeContainer_withPool]

theorem ruleDecodeFast_ignoresPool : RuleIgnoresPool ruleDecodeFast := fun P n l S => by
  simp only [ruleDecodeFast, decodeFastPath, decodeContainer_withPool, withPool_inFast]

theorem ruleDecodeFastFb_ignoresPool : RuleIgnoresPool ruleDecodeFastFb := fun P n l S => by
  simp only [ruleDecodeFastFb, decodeFull, decodeFastPath, decodeContainer_withPool, withPool_inFast]

theorem ruleHdrParse_ignoresPool : RuleIgnoresPool ruleHdrParse := fun _ _ _ _ => rfl

/-- A rule that is one stage run under SCRATCH_BYTES, where the stage itself reads no POOL_SIZE. -/
theorem stageRule_ignoresPool (site : Site) {r : Params → Latch → Bytes → Res Bytes}
    (hr : ∀ P n l S, r (P.withPool n) l S = r P l S) :
    RuleIgnoresPool fun P l S => stageReport l (hold P site S (r P l S)) := fun P n l S => by
  simp only [hold_withPool, hr]

theorem ruleRlePack_ignoresPool : RuleIgnoresPool ruleRlePack :=
  stageRule_ignoresPool _ fun _ _ _ _ => rfl

theorem ruleRleUnpack_ignoresPool : RuleIgnoresPool ruleRleUnpack :=
  stageRule_ignoresPool _ fun _ _ _ _ => rfl

theorem rulePredEnc_ignoresPool (v : Variant) : RuleIgnoresPool (rulePredEnc v) :=
  stageRule_ignoresPool _ fun _ _ _ _ => rfl

theorem rulePredDec_ignoresPool (v : Variant) : RuleIgnoresPool (rulePredDec v) :=
  stageRule_ignoresPool _ fun _ _ _ _ => rfl

theorem ruleFiltEnc_ignoresPool (t : Filter) : RuleIgnoresPool (ruleFiltEnc t) :=
  stageRule_ignoresPool _ fun _ _ _ _ => rfl

theorem ruleFiltEncAdaptive_ignoresPool : RuleIgnoresPool ruleFiltEncAdaptive :=
  stageRule_ignoresPool _ fun P n _ _ => by rw [withPool_score]

theorem ruleFiltDec_ignoresPool : RuleIgnoresPool ruleFiltDec :=
  stageRule_ignoresPool _ fun _ _ _ _ => rfl

theorem ruleZenc_ignoresPool (st : Strategy) : RuleIgnoresPool (ruleZenc st) :=
  stageRule_ignoresPool _ fun P n _ _ => by rw [withPool_entropyEnc]

theorem rulePalDec_ignoresPool : RuleIgnoresPool rulePalDec :=
  stageRule_ignoresPool _ fun _ _ _ _ => rfl

theorem ruleZdec_ignoresPool : RuleIgnoresPool ruleZdec := fun P n l S => by
  simp only [ruleZdec, withPool_scratch]

theorem rulePalEnc_ignoresPool : RuleIgnoresPool rulePalEnc := fun P n l S => by
  simp only [rulePalEnc, hold_withPool]

/-! ## Completions -/

@[simp] theorem rejectCommand_withPool (l : Latch) (tainted : Bool) (k : ErrKind) (s : State) (n : Nat) :
    rejectCommand l tainted k (s.withPool n) = (rejectCommand l tainted k s).withPool n := by
  cases tainted <;> rfl

@[simp] theorem fillCand_withPool (c : Option (Vector Word 11)) (s : State) (n : Nat) :
    fillCand c (s.withPool n) = (fillCand c s).withPool n := by
  cases c <;> rfl

@[simp] theorem complete_withPool (l : Latch) (rep : Report) (s : State) (n : Nat) :
    complete l rep (s.withPool n) = (complete l rep s).withPool n := by
  unfold complete
  rw [fillCand_withPool]
  split <;> rfl

@[simp] theorem finishCommand_withPool (l : Latch) (tainted : Bool) (rep : Report) (s : State) (n : Nat) :
    finishCommand l tainted rep (s.withPool n) = (finishCommand l tainted rep s).withPool n := by
  cases tainted with
  | true => rfl
  | false => exact complete_withPool l rep s n

/-! ## Frames -/

/-- A meaning whose next state is the same under every POOL_SIZE, but for POOL_SIZE itself. -/
def IgnoresPool (f : State → Host.Outcome State Fault Refusal) : Prop :=
  ∀ s t n, f s = .next t → f (s.withPool n) = .next (t.withPool n)

/-- The frame of a command does nothing with POOL_SIZE that its checks and its rule do not. -/
theorem runCommand_ignoresPool {checks : Params → Latch → Res Unit} {rule : Params → Latch → Bytes → Report}
    (hc : ∀ P n l, checks (P.withPool n) l = checks P l) (hr : RuleIgnoresPool rule) :
    IgnoresPool (runCommand checks rule) := by
  intro s t n h
  obtain ⟨hp, rfl⟩ | ⟨l, tainted, k, hp, hk, rfl⟩ | ⟨l, tainted, hp, hok, hd, rfl⟩ := runCommand_next h
  · have hp' : (t.withPool n).phase = .idle := hp
    simp only [runCommand, hp']
  · rw [← rejectCommand_withPool]
    exact runCommand_rejects hp ((hc s.cfg n l).trans hk)
  · have hrun := runCommand_ok (rule := rule) (s := s.withPool n) hp ((hc s.cfg n l).trans hok)
      ((overDevice_withPool s.cfg n l).trans hd)
    rw [hrun, ← finishCommand_withPool, ← hr s.cfg n l (source l s)]
    rfl

/-- The frame of a byte code does nothing with POOL_SIZE that its stage does not. -/
theorem runStage_ignoresPool {f : Params → Work → Work} (hf : ∀ P n wk, f (P.withPool n) wk = f P wk) :
    IgnoresPool (runStage f) := by
  intro s t n h
  obtain ⟨hp, rfl⟩ | ⟨l, tainted, hp, rfl⟩ := runStage_next h
  · have hp' : (t.withPool n).phase = .idle := hp
    simp only [runStage, hp']
  · rw [runStage_busy (s := s.withPool n) hp, ← hf s.cfg n s.work]
    rfl

/-! ## Instructions -/

theorem exec_ignoresPool_of_rule {i : Instr} (rule : Params → Latch → Bytes → Report) (hr : RuleIgnoresPool rule)
    (hf : ∀ s, exec i s = runCommand (checksOf i) rule s) : IgnoresPool (exec i) := by
  rw [funext hf]
  exact runCommand_ignoresPool (fun P n l => checksOf_withPool P n i l) hr

/-- A FLAGS row runs its method's inverse pipeline and reads the parameters nowhere else (44_method_catalog R340). -/
theorem dispatchMethod_ignoresPool (fl : Flags) {dec : Params → Bytes → Nat → Nat → Res Bytes}
    (hd : ∀ P n Y W C, dec (P.withPool n) Y W C = dec P Y W C) :
    IgnoresPool (runStage (dispatchMethod fl dec)) :=
  runStage_ignoresPool fun P n wk => by simp only [dispatchMethod, hd]

theorem filterStage_ignoresPool (t : Filter) : IgnoresPool (runStage (filterStage t)) :=
  runStage_ignoresPool fun _ _ _ => rfl

theorem predStage_ignoresPool (v : Variant) : IgnoresPool (runStage (predStage v)) :=
  runStage_ignoresPool fun P n wk => by simp only [predStage, dec4Body_withPool]

/-- Every instruction's meaning gives the same next state under every POOL_SIZE, but for POOL_SIZE itself. -/
theorem exec_ignoresPool (i : Instr) : IgnoresPool (exec i) := by
  cases i
  case encode => exact exec_ignoresPool_of_rule _ ruleEncode_ignoresPool fun _ => rfl
  case encodeM0 | encodeM1 | encodeM2 | encodeM3 | encodeM4 | encodeM5 | encodeM6 | encodeM7 | encodeM8 | encodeM9
      | encodeM10 =>
    exact exec_ignoresPool_of_rule _ (ruleEncodeM_ignoresPool _) fun _ => rfl
  case decode => exact exec_ignoresPool_of_rule _ ruleDecode_ignoresPool fun _ => rfl
  case decodeFast => exact exec_ignoresPool_of_rule _ ruleDecodeFast_ignoresPool fun _ => rfl
  case decodeFastFb => exact exec_ignoresPool_of_rule _ ruleDecodeFastFb_ignoresPool fun _ => rfl
  case hdrParse => exact exec_ignoresPool_of_rule _ ruleHdrParse_ignoresPool fun _ => rfl
  case rlePack => exact exec_ignoresPool_of_rule _ ruleRlePack_ignoresPool fun _ => rfl
  case rleUnpack => exact exec_ignoresPool_of_rule _ ruleRleUnpack_ignoresPool fun _ => rfl
  case predEncDelta | predEncAvg | predEncPaeth =>
    exact exec_ignoresPool_of_rule _ (rulePredEnc_ignoresPool _) fun _ => rfl
  case predDecDelta | predDecAvg | predDecPaeth =>
    exact exec_ignoresPool_of_rule _ (rulePredDec_ignoresPool _) fun _ => rfl
  case filtEncNone | filtEncSub | filtEncUp | filtEncAverage | filtEncPaeth =>
    exact exec_ignoresPool_of_rule _ (ruleFiltEnc_ignoresPool _) fun _ => rfl
  case filtEncAdaptive => exact exec_ignoresPool_of_rule _ ruleFiltEncAdaptive_ignoresPool fun _ => rfl
  case filtDec => exact exec_ignoresPool_of_rule _ ruleFiltDec_ignoresPool fun _ => rfl
  case zencDefault | zencFiltered | zencHuffman =>
    exact exec_ignoresPool_of_rule _ (ruleZenc_ignoresPool _) fun _ => rfl
  case zdec => exact exec_ignoresPool_of_rule _ ruleZdec_ignoresPool fun _ => rfl
  case palEnc => exact exec_ignoresPool_of_rule _ rulePalEnc_ignoresPool fun _ => rfl
  case palDec => exact exec_ignoresPool_of_rule _ rulePalDec_ignoresPool fun _ => rfl
  case method0Identity fl => exact dispatchMethod_ignoresPool fl fun _ _ _ _ _ => rfl
  case method1RleZ fl => exact dispatchMethod_ignoresPool fl fun P n Y _ C => dec1_withPool P n Y C
  case method2Z fl | method3ZBestStrategy fl => exact dispatchMethod_ignoresPool fl fun _ _ _ _ _ => rfl
  case method4PredZ fl => exact dispatchMethod_ignoresPool fl dec4_withPool
  case method5PaletteZ fl => exact dispatchMethod_ignoresPool fl fun P n Y _ C => dec5_withPool P n Y C
  case method6AdaptiveFilterZ fl | method7UniformFilterZ fl => exact dispatchMethod_ignoresPool fl dec6_withPool
  case method8RleFilterZ fl => exact dispatchMethod_ignoresPool fl fun P n Y _ C => dec8_withPool P n Y C
  case method9AdaptiveFilterZ2 fl | method10UniformFilterZ2 fl => exact dispatchMethod_ignoresPool fl dec9_withPool
  case filterTag0None | filterTag1Sub | filterTag2Up | filterTag3Average | filterTag4Paeth =>
    exact filterStage_ignoresPool _
  case predTag0Delta | predTag1Avg | predTag2Paeth => exact predStage_ignoresPool _

/-! ## Parameters stay -/

@[simp] theorem rejectCommand_cfg (l : Latch) (tainted : Bool) (k : ErrKind) (s : State) :
    (rejectCommand l tainted k s).cfg = s.cfg := by
  cases tainted <;> rfl

@[simp] theorem complete_cfg (l : Latch) (rep : Report) (s : State) : (complete l rep s).cfg = s.cfg := by
  obtain ⟨r, -, h⟩ | ⟨k, -, h⟩ | ⟨k, -, h⟩ := complete_cases l rep s <;> rw [h]
  · rw [succeed_cfg, fillCand_cfg]
  · rw [failDrawing_cfg, fillCand_cfg]
  · rw [failKeeping_cfg, fillCand_cfg]

@[simp] theorem finishCommand_cfg (l : Latch) (tainted : Bool) (rep : Report) (s : State) :
    (finishCommand l tainted rep s).cfg = s.cfg := by
  cases tainted with
  | true => rfl
  | false => exact complete_cfg l rep s

/-- No instruction changes a parameter (10_state R30). -/
theorem exec_cfg {i : Instr} {s t : State} (h : exec i s = .next t) : t.cfg = s.cfg := by
  obtain ⟨-, rule, -, hrun⟩ | ⟨-, g, hrun⟩ := exec_form i <;> rw [hrun] at h
  · obtain ⟨-, rfl⟩ | ⟨l, tainted, k, -, -, rfl⟩ | ⟨l, tainted, -, -, -, rfl⟩ := runCommand_next h
    · rfl
    · exact rejectCommand_cfg l tainted k s
    · exact finishCommand_cfg l tainted _ s
  · obtain ⟨-, rfl⟩ | ⟨l, tainted, -, rfl⟩ := runStage_next h <;> rfl

/-- Settles O29: the next state under another POOL_SIZE is the same state on that engine. -/
theorem poolSizeInvisible : Obligations.PoolSizeInvisible := by
  intro i s t n h
  have hpool : exec i (s.withPool n) = .next (t.withPool n) := exec_ignoresPool i s t n h
  rw [State.withPool, State.withPool, exec_cfg h] at hpool
  exact hpool

end Sys2Proof.Machine
end

section
/-! The host's accesses to the register block (10_state R31 to R58): which register an address names, the one step that
an aligned 32-bit access is, and what each register takes and returns. -/

namespace Sys2Proof.Machine

/-! ## A register's address -/

@[simp] theorem wordBytes_length (w : Word) : (wordBytes w).length = 4 := rfl

theorem wordBytes_zero : wordBytes 0 = [0, 0, 0, 0] := by decide

@[simp] theorem readReg_reserved (s : State) : readReg .reserved s = 0 := rfl

/-- The four bytes of a word give the word back (20_memory R89). -/
@[simp] theorem wordOfBytes_wordBytes (w : Word) : wordOfBytes (wordBytes w) = w := by
  apply BitVec.eq_of_toNat_eq
  simp only [wordOfBytes, wordBytes, leValue, byteOf, BitVec.toNat_ofNat]
  omega

theorem Reg.offset_lt (r : Reg) : r.offset < 256 := by
  cases r with
  | candSize m => simp only [Reg.offset]; omega
  | _ => decide

theorem Reg.offset_aligned (r : Reg) : r.offset % 4 = 0 := by
  cases r with
  | candSize m => simp only [Reg.offset]; omega
  | _ => rfl

theorem regAt_offset_candSize : ∀ m : Fin 11, regAt (Reg.candSize m).offset = .candSize m := by decide

/-- Every register stands at its own offset (R32). -/
theorem regAt_offset (r : Reg) : regAt r.offset = r := by
  cases r with
  | candSize m => exact regAt_offset_candSize m
  | _ => rfl

/-- From 0x6C on every offset is reserved (R53). -/
theorem regAt_reserved {off : Nat} (h : 0x6C ≤ off) : regAt off = .reserved := by
  unfold regAt
  repeat rw [if_neg (by omega)]
  rw [dif_neg (by omega)]

/-- The register block does not pass the top of the address space (R11). -/
theorem blockAddr_toNat (P : Params) {off : Nat} (h : off < 256) :
    (BitVec.ofNat 32 (P.engineBase + off)).toNat = P.engineBase + off := by
  have hpage := P.enginePage.isLt
  rw [BitVec.toNat_ofNat, Params.engineBase]
  omega

/-- An access that touches the register block goes to a register exactly when it is one aligned 32-bit access (R54). -/
theorem targetOf_touching {P : Params} {a n : Nat} (h : ∃ x, a ≤ x ∧ x < a + n ∧ P.inBlock x = true) :
    targetOf P a n =
      if n = 4 ∧ a % 4 = 0 then .register (regAt (a - P.engineBase)) else .badRegister := by
  obtain ⟨x, hlo, hhi, hx⟩ := h
  have htouch : ¬allFrom (fun x => !P.inBlock x) n a = true := fun hall => by
    have hfree := (allFrom_iff _ _ _).1 hall x hlo hhi
    simp [hx] at hfree
  rw [targetOf, if_neg htouch]

theorem targetOf_offset (P : Params) {off : Nat} (hlt : off < 256) (hal : off % 4 = 0) :
    targetOf P (BitVec.ofNat 32 (P.engineBase + off)).toNat 4 = .register (regAt off) := by
  rw [blockAddr_toNat P hlt, targetOf_touching, if_pos, Nat.add_sub_cancel_left]
  · have hbase : P.engineBase = P.enginePage.toNat * 256 := rfl
    omega
  · refine ⟨P.engineBase + off, Nat.le_refl _, by omega, ?_⟩
    simp only [Params.inBlock, Bool.and_eq_true, decide_eq_true_eq]
    omega

/-- An access goes to memory only if each of its addresses holds memory (00_scope R18, 20_memory R80). -/
theorem targetOf_memory {P : Params} {a n : Nat} (h : targetOf P a n = .memory) :
    ∀ x, a ≤ x → x < a + n → holdsMemory P x = true := by
  unfold targetOf at h
  split at h
  next hblock =>
    split at h
    next hmem =>
      intro x hlo hhi
      have hin := (allFrom_iff _ _ _).1 hmem x hlo hhi
      have hout := (allFrom_iff _ _ _).1 hblock x hlo hhi
      rw [holdsMemory, hin, hout]
      rfl
    next => cases h
  next => split at h <;> cases h

/-! ## The step of an access -/

/-- A step takes the next event off the schedule and runs it (log 3). -/
theorem step_of_inputs {s : State} {e : Event} {rest : List Event} (h : s.inputs = e :: rest) :
    step s = runEvent e { s with inputs := rest } := by
  simp only [step, transition, h]

section
variable {s : State} {v : Word} {rest : List Event}

theorem step_writeOffset {off : Nat} (hlt : off < 256) (hal : off % 4 = 0)
    (h : s.inputs = .busWrite (BitVec.ofNat 32 (s.cfg.engineBase + off)) (wordBytes v) :: rest) :
    step s = .next (writeReg (regAt off) v { s with inputs := rest }) := by
  rw [step_of_inputs h]
  simp only [runEvent, busWrite, wordBytes_length, targetOf_offset s.cfg hlt hal, wordOfBytes_wordBytes]

theorem step_readOffset {off : Nat} (hlt : off < 256) (hal : off % 4 = 0)
    (h : s.inputs = .busRead (BitVec.ofNat 32 (s.cfg.engineBase + off)) 4 :: rest) :
    step s = .next { s with
      inputs := rest, rdata := wordBytes (readReg (regAt off) { s with inputs := rest }) } := by
  rw [step_of_inputs h]
  simp only [runEvent, busRead, targetOf_offset s.cfg hlt hal]

/-- A host write of a register is one step, `writeReg` (R55). -/
theorem step_writeReg (r : Reg) (h : s.inputs = .busWrite (regAddr s.cfg r) (wordBytes v) :: rest) :
    step s = .next (writeReg r v { s with inputs := rest }) := by
  have hstep := step_writeOffset r.offset_lt r.offset_aligned h
  rwa [regAt_offset] at hstep

/-- A host read of a register is one step, which returns `readReg` (R54). -/
theorem step_readReg (r : Reg) (h : s.inputs = .busRead (regAddr s.cfg r) 4 :: rest) :
    step s = .next { s with inputs := rest, rdata := wordBytes (readReg r { s with inputs := rest }) } := by
  have hstep := step_readOffset r.offset_lt r.offset_aligned h
  rwa [regAt_offset] at hstep

end

/-! ## STATUS and CTRL as words -/

theorem toNat_append_eq_add {m n : Nat} (x : BitVec m) (y : BitVec n) :
    (x ++ y).toNat = x.toNat * 2 ^ n + y.toNat := by
  rw [BitVec.toNat_append, ← Nat.shiftLeft_add_eq_or_of_lt y.isLt, Nat.shiftLeft_eq]

theorem capWord_toNat (P : Params) : (capWord P).toNat = 0x7FF + 0x10000 * P.fastSubset.toNat := by
  simp only [capWord, toNat_append_eq_add, BitVec.toNat_ofNat]
  omega

theorem ctrlWord_toNat (outRgba irqEn : Bool) : (ctrlWord outRgba irqEn).toNat = outRgba.toNat + 2 * irqEn.toNat := by
  simp only [ctrlWord, toNat_append_eq_add, BitVec.toNat_ofNat, BitVec.toNat_ofBool]
  omega

/-- STATUS field by field; the reserved bits are 0 (R38). -/
theorem Status.toWord_toNat (st : Status) (busy : Bool) :
    (st.toWord busy).toNat =
      busy.toNat + 2 * st.done.toNat + 4 * st.err.toNat + 8 * st.drop.toNat + 0x100 * st.errcode.toNat +
        0x10000 * st.resMethod.toNat + 0x100000 * st.resAlpha.toNat + 0x200000 * st.padded.toNat +
        0x400000 * st.fellback.toNat + 0x800000 * st.palExcl.toNat := by
  simp only [Status.toWord, toNat_append_eq_add, BitVec.toNat_ofNat, BitVec.toNat_ofBool]
  omega

/-- A STATUS write clears bits 1, 2 and 3 where the value has a 1, and no other bit (R39). -/
theorem Status.toWord_writeOneToClear_getLsbD (st : Status) (busy : Bool) (v : Word) (i : Nat) :
    ((st.writeOneToClear v).toWord busy).getLsbD i =
      ((st.toWord busy).getLsbD i && !(decide (1 ≤ i ∧ i ≤ 3) && v.getLsbD i)) := by
  simp only [Status.toWord, BitVec.getLsbD_append]
  match i with
  | 0 | 1 | 2 | 3 => simp
  | i + 4 => simp [Status.writeOneToClear]

/-- CTRL after a write without bit 31 reads bits 1:0 of the value (R35). -/
theorem ctrlWord_getLsbD (v : Word) : ctrlWord (v.getLsbD 0) (v.getLsbD 1) = v &&& 3 := by
  apply BitVec.eq_of_toNat_eq
  have hand : v.toNat &&& 3 = v.toNat % 4 := Nat.and_two_pow_sub_one_eq_mod v.toNat 2
  rw [ctrlWord_toNat, BitVec.toNat_and, show (3 : Word).toNat = 3 from rfl, hand]
  simp only [BitVec.getLsbD, Nat.toNat_testBit]
  omega

/-! ## The obligations of the register block -/

/-- Settles O10: each offset is its register's, so a read is `readReg` and a write of a read-only register `writeReg`,
which leaves the state as it is. -/
theorem registerAccess : Obligations.RegisterAccess := by
  intro s rest
  refine ⟨?_, fun m => step_readReg (.candSize m), ?_, fun m v => step_writeReg (.candSize m)⟩
  · simp only [List.forall_mem_cons]
    exact ⟨step_readReg .id, step_readReg .cap, step_readReg .ctrl, step_readReg .cmd, step_readReg .status,
      step_readReg .srcAddr, step_readReg .srcLen, step_readReg .dstAddr, step_readReg .dstCap, step_readReg .dstLen,
      step_readReg .imgW, step_readReg .imgH, step_readReg .imgCh, step_readReg .resW, step_readReg .resH,
      step_readReg .resCh, List.forall_mem_nil _⟩
  · simp only [List.forall_mem_cons]
    exact ⟨fun v => step_writeReg .id, fun v => step_writeReg .cap, fun v => step_writeReg .dstLen,
      fun v => step_writeReg .resW, fun v => step_writeReg .resH, fun v => step_writeReg .resCh, List.forall_mem_nil _⟩

/-- Settles O11: from 0x6C on every offset is `Reg.reserved`. -/
theorem reservedOffsets : Obligations.ReservedOffsets := by
  intro s off v rest hlo hhi hal
  have hreg : regAt off = .reserved := regAt_reserved hlo
  constructor <;> intro h
  · rw [step_readOffset (by omega) hal h, hreg, readReg_reserved, wordBytes_zero]
  · rw [step_writeOffset (by omega) hal h, hreg]
    rfl

/-- Settles O12: an access that touches the block and is not aligned and 32 bits wide has the target `badRegister`. -/
theorem badRegisterAccess : Obligations.BadRegisterAccess := by
  intro s a data n rest
  constructor <;> intro htouch hbad h <;> rw [step_of_inputs h]
  · simp only [runEvent, busWrite, targetOf_touching htouch, if_neg hbad]
  · simp only [runEvent, busRead, targetOf_touching htouch, if_neg hbad]

/-- Settles O13: the registers' words as sums of their fields. -/
theorem registerContents : Obligations.RegisterContents := fun s =>
  ⟨rfl, capWord_toNat s.cfg, ctrlWord_toNat s.outRgba s.irqEn, s.status.toWord_toNat s.phase.isBusy⟩

/-- Settles O14: the step is `writeStatus`, which changes STATUS alone. -/
theorem statusWrite : Obligations.StatusWrite := by
  intro s v rest h
  refine ⟨_, step_writeReg .status h, fun i => ?_, fun hv => ?_, rfl⟩
  · exact s.status.toWord_writeOneToClear_getLsbD s.phase.isBusy v i
  · have hdone : (s.status.writeOneToClear v).done = false := by
      rw [Status.writeOneToClear_done, hv, Bool.not_true, Bool.and_false]
    exact (congrArg (s.irqEn && ·) hdone).trans (Bool.and_false _)

/-- Settles O15: each write is `writeReg` of its register, and CTRL without bit 31 is no reset. -/
theorem hostRegisterWrites : Obligations.HostRegisterWrites := by
  intro s v rest
  refine ⟨step_writeReg .srcAddr, step_writeReg .srcLen, step_writeReg .dstAddr, step_writeReg .dstCap,
    step_writeReg .imgW, step_writeReg .imgH, step_writeReg .imgCh, fun hv h => ⟨?_, ctrlWord_getLsbD v, rfl⟩⟩
  rw [step_writeReg .ctrl h, writeReg, writeCtrl, hv]
  rfl

/-- Settles O16: the reset state evaluated register by register. -/
theorem resetValues : Obligations.ResetValues := by
  refine ⟨rfl, rfl, rfl, rfl, by decide, ?_, by decide⟩
  simp only [List.forall_mem_cons]
  exact ⟨rfl, rfl, rfl, rfl, rfl, rfl, rfl, rfl, rfl, rfl, rfl, rfl, rfl, rfl, rfl, List.forall_mem_nil _⟩

end Sys2Proof.Machine
end

section
/-! Acceptance, resets and the model's stage turns (40_commands R160, 70_reset_and_hazards R490 to R497, log 5): the one
step that each is. -/

namespace Sys2Proof.Machine

/-! ## Acceptance -/

theorem submit_idle {w : Word} {s : State} (hp : s.phase = .idle) : submit w s = accept w s := by
  simp only [submit, hp]

theorem submit_busy {w : Word} {s : State} {l : Latch} {tainted : Bool} (hp : s.phase = .busy l tainted) :
    submit w s = { s with status := s.status.dropped } := by
  simp only [submit, hp]

theorem cmdOp_eq (w : Word) : cmdOp w = w.toNat % 256 := by
  rw [cmdOp, BitVec.extractLsb'_toNat, Nat.shiftRight_zero]

theorem instr?_isSome {d : Decoded} : d.instr?.isSome = true ↔ ∃ i, d = .instr i := by
  cases d <;> simp [Decoded.instr?]

/-- The words whose acceptance clears CAND_SIZE (R160, 30_encoding R115). -/
theorem isEncodeWord_iff (w : Word) :
    isEncodeWord w = true ↔ (w.toNat % 256 = 1 ∨ w.toNat % 256 = 2) ∧ ∃ i, decodeCmd w = .instr i := by
  simp only [isEncodeWord, Bool.and_eq_true, Bool.or_eq_true, beq_iff_eq, cmdOp_eq, instr?_isSome]

theorem candNone_getElem (m : Fin 11) : candNone[m.val] = 0xFFFFFFFF := Vector.getElem_replicate m.isLt

/-- Settles O8: the write is `accept`, and CAND_SIZE is cleared exactly for a legal encode word. -/
theorem acceptStep : Obligations.AcceptStep := by
  intro s w rest hp h
  have hstep : step s = .next (accept w { s with inputs := rest }) := by
    rw [step_writeReg .cmd h, writeReg, submit_idle (by exact hp)]
  refine ⟨_, hstep, rfl, rfl, rfl, fun henc m => ?_, fun henc => ?_, Bool.and_false _, rfl⟩
  · simp only [accept_candSize, (isEncodeWord_iff w).2 henc, if_true, candNone_getElem]
  · rw [accept_candSize, if_neg (mt (isEncodeWord_iff w).1 henc)]

/-- Settles O9: the write is `submit` while BUSY. -/
theorem droppedSubmission : Obligations.DroppedSubmission := by
  intro s l tainted w rest hp h
  rw [step_writeReg .cmd h, writeReg, submit_busy (s := { s with inputs := rest }) hp]
  rfl

/-! ## Reset -/

/-- Reset gives every register its reset value (10_state R61); only memory and the draws depend on the phase. -/
theorem doReset_eq (s : State) : doReset s = { State.reset with
    cfg := s.cfg, inputs := s.inputs, rdata := s.rdata, mem := (doReset s).mem, draws := (doReset s).draws } := by
  unfold doReset
  cases s.phase <;> rfl

/-- Settles O17: both resets are `doReset`, whose draw over an abandoned destination window spares the source window. -/
theorem resetStep : Obligations.ResetStep := by
  intro s v rest hv
  refine ⟨doReset { s with inputs := rest }, step_of_inputs (s := { s with inputs := _ }) rfl, ?_, doReset_eq _, ?_,
    fun hp => ?_, fun l tainted hp hwf => ?_⟩
  · rw [step_writeReg (s := { s with inputs := _ }) .ctrl rfl, writeReg, writeCtrl, hv]
    rfl
  · rw [doReset_eq]
    rfl
  · exact doReset_mem_idle _ hp
  · have hmem := doReset_mem_busy { s with inputs := rest } l tainted hp
    constructor
    · intro a hout
      rw [hmem]
      exact Memory.get_drawOver_outside _ hwf hout
    · intro a hsrc
      rw [hmem]
      exact Memory.get_drawOver_kept hwf (by rw [hsrc, Bool.not_true, Bool.and_false])

/-! ## Stage turns -/

/-- A stage turn runs the instruction that the code at the head of the stream decodes to (log 5). -/
theorem stageTurn_instr {s : State} {fmt : CodeFormat} {b : Byte} {tl : Bytes} {c : Code} {i : Instr}
    (hp : s.phase.isBusy = true) (hf : s.work.fail = none) (hin : s.work.inp = b :: tl) (hc : byteCode fmt b = some c)
    (hd : Sys2Proof.decode c = .instr i) : stageTurn fmt s = exec i { s with work := { s.work with inp := tl } } := by
  simp only [stageTurn, hp, hf, hin, hc, hd]

/-- Settles O7: the schedule gives the stage turn, which runs the code it takes off the stream. -/
theorem stepRunsByteCode : Obligations.StepRunsByteCode := by
  intro s l tainted fmt b tl c i rest hp hf hin hev hc hd _
  have hbusy : s.phase.isBusy = true := by rw [hp]; rfl
  rw [step_of_inputs hev]
  exact stageTurn_instr hbusy hf hin hc hd

end Sys2Proof.Machine
end

section
/-! The invariant of memory and phase (10_state R37, R40, R52, R59) and the parameters (R30): what every event keeps.
A completion needs only memory's part of the invariant and establishes the rest; an access changes one side at most. -/

namespace Sys2Proof.Machine

/-- What one step keeps: the invariant and the parameters. -/
def KeepsInvariant (s t : State) : Prop := (Inv s → Inv t) ∧ t.cfg = s.cfg

theorem KeepsInvariant.refl (s : State) : KeepsInvariant s s := ⟨id, rfl⟩

/-! ## The two parts of the invariant -/

theorem phaseInv_idle {s : State} (hp : s.phase = .idle) : PhaseInv s ↔ s.work = Work.empty := by
  simp only [PhaseInv, hp]

theorem phaseInv_busy {s : State} {l : Latch} {tainted : Bool} (hp : s.phase = .busy l tainted) :
    PhaseInv s ↔ s.cmd = l.word ∧ s.status = { Status.reset with drop := s.status.drop } ∧
      (isEncodeWord l.word = true → s.candSize = candNone) := by
  simp only [PhaseInv, hp]

/-- An IDLE state with empty internal storage has the invariant where memory has its part. -/
theorem MemoryInv.inv {s : State} (hm : MemoryInv s) (hp : s.phase = .idle) (hw : s.work = Work.empty) : Inv s :=
  ⟨hm, (phaseInv_idle hp).2 hw⟩

section
variable {s t : State}

/-- Writing bytes where memory is keeps memory's part. -/
theorem MemoryInv.of_write {a : Nat} {bs : Bytes} (h : MemoryInv s)
    (hin : ∀ x, a ≤ x → x < a + bs.length → holdsMemory s.cfg x = true) (hcfg : t.cfg = s.cfg)
    (hmem : t.mem = s.mem.write a bs) : MemoryInv t := by
  refine ⟨hmem ▸ Memory.write_wf a bs h.1, fun c hc => ?_⟩
  rw [hcfg]
  obtain ⟨hlo, hhi⟩ | hold := Memory.mem_write (hmem ▸ hc)
  · exact hin c.1 hlo hhi
  · exact h.2 c hold

/-- Drawing free values where memory is keeps memory's part. -/
theorem MemoryInv.of_drawOver {free : Nat → Bool} {d n a : Nat} (h : MemoryInv s)
    (hfree : ∀ x, free x = true → holdsMemory s.cfg x = true) (hcfg : t.cfg = s.cfg)
    (hmem : t.mem = Memory.drawOver free d n a s.mem) : MemoryInv t := by
  refine ⟨hmem ▸ Memory.drawOver_wf free d n a h.1, fun c hc => ?_⟩
  rw [hcfg]
  obtain hf | hold := Memory.mem_drawOver (hmem ▸ hc)
  · exact hfree c.1 hf
  · exact h.2 c hold

end

/-! ## Completions and resets -/

section
variable {s : State} (h : MemoryInv s)
include h

theorem MemoryInv.fillCand (cand : Option (Vector Word 11)) : MemoryInv (fillCand cand s) := by
  cases cand <;> exact h

theorem MemoryInv.inv_failKeeping (k : ErrKind) : Inv (failKeeping k s) := MemoryInv.inv h rfl rfl

theorem MemoryInv.inv_failDrawing (l : Latch) (k : ErrKind) : Inv (failDrawing l k s) :=
  (h.of_drawOver (t := failDrawing l k s) (fun _ => id) rfl rfl).inv rfl rfl

theorem MemoryInv.inv_completeDrawn (l : Latch) : Inv (completeDrawn l s) :=
  (h.of_drawOver (t := completeDrawn l s) (fun _ => id) rfl rfl).inv rfl rfl

theorem MemoryInv.inv_succeed {l : Latch} {r : Result} (hdst : ∀ a, l.inDst a = true → holdsMemory s.cfg a = true)
    (hfit : r.data.length ≤ l.dstCap.toNat) : Inv (succeed l r s) := by
  refine (h.of_write (t := succeed l r s) (fun x hlo hhi => hdst x ?_) rfl rfl).inv rfl rfl
  simp only [Latch.inDst, inWindow, Bool.and_eq_true, decide_eq_true_eq]
  omega

theorem MemoryInv.inv_rejectCommand (l : Latch) (tainted : Bool) (k : ErrKind) :
    Inv (rejectCommand l tainted k s) := by
  cases tainted with
  | true => exact h.inv_completeDrawn l
  | false => exact h.inv_failKeeping k

theorem MemoryInv.inv_complete {l : Latch} {rep : Report}
    (hdst : ∀ a, l.inDst a = true → holdsMemory s.cfg a = true)
    (hfit : ∀ r, rep.verdict = .success r → r.data.length ≤ l.dstCap.toNat) : Inv (complete l rep s) := by
  have hfill : MemoryInv (Machine.fillCand rep.cand s) := h.fillCand rep.cand
  obtain ⟨r, hv, hc⟩ | ⟨k, -, hc⟩ | ⟨k, -, hc⟩ := complete_cases l rep s <;> rw [hc]
  · exact hfill.inv_succeed (by rwa [fillCand_cfg]) (hfit r hv)
  · exact hfill.inv_failDrawing l k
  · exact hfill.inv_failKeeping k

theorem MemoryInv.inv_finishCommand {l : Latch} {rep : Report} (tainted : Bool)
    (hdst : ∀ a, l.inDst a = true → holdsMemory s.cfg a = true)
    (hfit : ∀ r, rep.verdict = .success r → r.data.length ≤ l.dstCap.toNat) :
    Inv (finishCommand l tainted rep s) := by
  cases tainted with
  | true => exact h.inv_completeDrawn l
  | false => exact h.inv_complete hdst hfit

theorem MemoryInv.inv_doReset : Inv (doReset s) := by
  refine MemoryInv.inv ?_ (doReset_phase s) (doReset_work s)
  cases hp : s.phase with
  | idle => rwa [MemoryInv, doReset_mem_idle s hp, doReset_cfg]
  | busy l tainted =>
    refine h.of_drawOver (fun x hx => ?_) (doReset_cfg s) (doReset_mem_busy s l tainted hp)
    exact (Bool.and_eq_true_iff.1 hx).1

end

/-! ## The engine's turns -/

theorem Phase.isBusy_iff {p : Phase} : p.isBusy = true ↔ ∃ l tainted, p = .busy l tainted := by
  cases p <;> simp [Phase.isBusy]

/-- While BUSY the invariant says nothing of internal storage (log 5). -/
theorem Inv.setWork {s : State} {l : Latch} {tainted : Bool} (h : Inv s) (hp : s.phase = .busy l tainted) (w : Work) :
    Inv { s with work := w } :=
  ⟨h.1, (phaseInv_busy (s := { s with work := w }) hp).2 ((phaseInv_busy hp).1 h.2)⟩

/-- A command completes over memory its checks have passed, and a byte code changes internal storage alone. -/
theorem exec_keeps {i : Instr} {s t : State} (ht : exec i s = .next t) : KeepsInvariant s t := by
  refine ⟨fun hinv => ?_, exec_cfg ht⟩
  obtain ⟨hfmt, rule, hfits, hrun⟩ | ⟨-, g, hrun⟩ := exec_form i <;> rw [hrun] at ht
  · obtain ⟨-, rfl⟩ | ⟨l, tainted, k, -, -, rfl⟩ | ⟨l, tainted, -, hok, -, rfl⟩ := runCommand_next ht
    · exact hinv
    · exact hinv.1.inv_rejectCommand l tainted k
    · exact hinv.1.inv_finishCommand tainted (chkWin_dst (checksOf_win hfmt hok)).2 (hfits _ _ _)
  · obtain ⟨-, rfl⟩ | ⟨l, tainted, hp, rfl⟩ := runStage_next ht
    · exact hinv
    · exact hinv.setWork hp _

/-- Everything the engine's turn can do when it gives a next state (R161, R162). -/
theorem engineTurn_next {s t : State} (h : engineTurn s = .next t) :
    t = s ∨ (∃ l tainted k, t = rejectCommand l tainted k s) ∨ ∃ i, exec i s = .next t := by
  unfold engineTurn at h
  split at h
  · exact .inl (Host.Outcome.next.inj h).symm
  · split at h
    · exact .inr (.inr ⟨_, h⟩)
    all_goals exact .inr (.inl ⟨_, _, _, (Host.Outcome.next.inj h).symm⟩)

theorem engineTurn_keeps {s t : State} (h : engineTurn s = .next t) : KeepsInvariant s t := by
  obtain rfl | ⟨l, tainted, k, rfl⟩ | ⟨i, hi⟩ := engineTurn_next h
  · exact .refl t
  · exact ⟨fun hinv => hinv.1.inv_rejectCommand l tainted k, rejectCommand_cfg l tainted k s⟩
  · exact exec_keeps hi

/-- Everything a stage turn can do when it gives a next state (log 5). -/
theorem stageTurn_next {fmt : CodeFormat} {s t : State} (h : stageTurn fmt s = .next t) :
    t = s ∨ ∃ l tainted, s.phase = .busy l tainted ∧
      ((∃ w, t = { s with work := w }) ∨ ∃ i w, exec i { s with work := w } = .next t) := by
  unfold stageTurn at h
  split at h
  next b rest hbusy _ _ =>
    split at h
    · exact .inl (Host.Outcome.next.inj h).symm
    · obtain ⟨l, tainted, hp⟩ := Phase.isBusy_iff.1 hbusy
      refine .inr ⟨l, tainted, hp, ?_⟩
      split at h
      · exact .inr ⟨_, _, h⟩
      all_goals exact .inl ⟨_, (Host.Outcome.next.inj h).symm⟩
  next => exact .inl (Host.Outcome.next.inj h).symm

theorem stageTurn_keeps {fmt : CodeFormat} {s t : State} (h : stageTurn fmt s = .next t) : KeepsInvariant s t := by
  obtain rfl | ⟨l, tainted, hp, ⟨w, rfl⟩ | ⟨i, w, hi⟩⟩ := stageTurn_next h
  · exact .refl t
  · exact ⟨fun hinv => hinv.setWork hp w, rfl⟩
  · obtain ⟨hkeep, hcfg⟩ := exec_keeps hi
    exact ⟨fun hinv => hkeep (hinv.setWork hp w), hcfg⟩

/-! ## The host's accesses -/

/-- Acceptance establishes what BUSY says of the registers (R160). -/
theorem accept_keeps (w : Word) (s : State) : KeepsInvariant s (accept w s) := by
  refine ⟨fun hinv => ⟨hinv.1, (phaseInv_busy (accept_phase w s)).2 ⟨rfl, rfl, fun henc => ?_⟩⟩, rfl⟩
  exact (accept_candSize w s).trans (if_pos henc)

theorem submit_keeps (w : Word) (s : State) : KeepsInvariant s (submit w s) := by
  cases hp : s.phase with
  | idle => rw [submit_idle hp]; exact accept_keeps w s
  | busy l tainted =>
    rw [submit_busy hp]
    refine ⟨fun hinv => ⟨hinv.1, (phaseInv_busy (s := { s with status := s.status.dropped }) hp).2 ?_⟩, rfl⟩
    obtain ⟨hcmd, hst, hcand⟩ := (phaseInv_busy hp).1 hinv.2
    exact ⟨hcmd, by rw [hst]; rfl, hcand⟩

/-- While BUSY only DROP can be set among the bits a STATUS write clears (R39, R40). -/
theorem writeStatus_keeps (v : Word) (s : State) : KeepsInvariant s (writeStatus v s) := by
  refine ⟨fun hinv => ⟨hinv.1, ?_⟩, rfl⟩
  cases hp : s.phase with
  | idle => exact (phaseInv_idle (s := writeStatus v s) hp).2 ((phaseInv_idle hp).1 hinv.2)
  | busy l tainted =>
    obtain ⟨hcmd, hst, hcand⟩ := (phaseInv_busy hp).1 hinv.2
    refine (phaseInv_busy (s := writeStatus v s) hp).2 ⟨hcmd, ?_, hcand⟩
    rw [writeStatus_status, hst]
    rfl

theorem writeCtrl_keeps (v : Word) (s : State) : KeepsInvariant s (writeCtrl v s) := by
  unfold writeCtrl
  split
  · exact ⟨fun hinv => hinv.1.inv_doReset, doReset_cfg s⟩
  · exact ⟨id, rfl⟩

/-- A register write keeps the invariant; that of an operand register changes nothing it speaks of. -/
theorem writeReg_keeps (r : Reg) (v : Word) (s : State) : KeepsInvariant s (writeReg r v s) := by
  cases r with
  | ctrl => exact writeCtrl_keeps v s
  | cmd => exact submit_keeps v s
  | status => exact writeStatus_keeps v s
  | _ => exact ⟨id, rfl⟩

/-- A memory write keeps the phase but for the mark that the result is a draw (20_memory R99, log 9). -/
theorem storeBytes_keeps {a : Nat} {data : Bytes} {s : State}
    (hin : ∀ x, a ≤ x → x < a + data.length → holdsMemory s.cfg x = true) :
    KeepsInvariant s (storeBytes a data s) := by
  refine ⟨fun hinv => ⟨hinv.1.of_write hin rfl rfl, ?_⟩, rfl⟩
  cases hp : s.phase with
  | idle =>
    have hp' : (storeBytes a data s).phase = .idle := by rw [storeBytes_phase, hp]; rfl
    exact (phaseInv_idle hp').2 ((phaseInv_idle hp).1 hinv.2)
  | busy l tainted =>
    have hp' : (storeBytes a data s).phase = .busy l (tainted || hitsWindow l a data.length) := by
      rw [storeBytes_phase, hp]; rfl
    exact (phaseInv_busy hp').2 ((phaseInv_busy hp).1 hinv.2)

theorem busWrite_keeps {addr : Word} {data : Bytes} {s t : State} (h : busWrite addr data s = .next t) :
    KeepsInvariant s t := by
  unfold busWrite at h
  split at h
  next r _ => cases h; exact writeReg_keeps r _ s
  next htarget => cases h; exact storeBytes_keeps (targetOf_memory htarget)
  all_goals cases h

theorem busRead_keeps {addr : Word} {n : Nat} {s t : State} (h : busRead addr n s = .next t) :
    KeepsInvariant s t := by
  unfold busRead at h
  split at h
  next => cases h; exact ⟨id, rfl⟩
  next => cases h; exact ⟨id, rfl⟩
  all_goals cases h

theorem waitTurn_keeps (s : State) : KeepsInvariant s (waitTurn s) := by
  unfold waitTurn
  split <;> exact ⟨id, rfl⟩

/-! ## Every step -/

theorem runEvent_keeps {e : Event} {s t : State} (h : runEvent e s = .next t) : KeepsInvariant s t := by
  cases e with
  | busWrite addr data => exact busWrite_keeps h
  | busRead addr n => exact busRead_keeps h
  | hwReset => cases h; exact ⟨fun hinv => hinv.1.inv_doReset, doReset_cfg s⟩
  | engine => exact engineTurn_keeps h
  | stage fmt => exact stageTurn_keeps h
  | wait => cases h; exact waitTurn_keeps s

/-- Settles O30: every event keeps the invariant, and taking it off the schedule changes nothing the invariant reads. -/
theorem stepKeepsInvariant : Obligations.StepKeepsInvariant := by
  intro s t h
  cases hin : s.inputs with
  | nil =>
    rw [step, transition, hin] at h
    exact engineTurn_keeps h
  | cons e rest =>
    rw [step_of_inputs hin] at h
    exact (runEvent_keeps h : KeepsInvariant { s with inputs := rest } t)

/-- Settles O31: memory lists nothing, and the phase is IDLE with empty internal storage. -/
theorem resetHasInvariant : Obligations.ResetHasInvariant :=
  MemoryInv.inv ⟨rfl, fun _ hc => absurd hc List.not_mem_nil⟩ rfl rfl

end Sys2Proof.Machine
end

section
/-! What a completion leaves (20_memory R84, 40_commands R161, 60_exceptions R454 to R459): the frame that every outcome
shares, the registers of an error completion, and CAND_SIZE as the command's report fills it (10_state R52). -/

namespace Sys2Proof.Machine

/-! ## The frame of every completion -/

/-- What every completion of `l` from `s` leaves, a draw included. -/
structure CompletionFrame (l : Latch) (s t : State) : Prop where
  untouched : Untouched s t
  phase : t.phase = .idle
  work : t.work = Work.empty
  done : t.status.done = true
  drop : t.status.drop = s.status.drop
  elsewhere : SameOutside l.dstAddr.toNat l.dstCap.toNat s t

/-- DONE is set, so `irq` is IRQ_EN (10_state R58). -/
theorem CompletionFrame.irq {l : Latch} {s t : State} (h : CompletionFrame l s t) : t.irq = s.irqEn := by
  rw [State.irq, h.done, h.untouched.irqEn, Bool.and_true]

theorem fillCand_eq (cand : Option (Vector Word 11)) (s : State) :
    fillCand cand s = { s with candSize := cand.getD s.candSize } := by
  cases cand <;> rfl

/-- The frame does not speak of CAND_SIZE, which a report may fill first. -/
theorem CompletionFrame.of_fillCand {l : Latch} {cand : Option (Vector Word 11)} {s t : State}
    (h : CompletionFrame l (fillCand cand s) t) : CompletionFrame l s t := by
  rw [fillCand_eq] at h
  exact { h with untouched := { h.untouched with } }

section
variable {s : State} (hwf : s.mem.wf = true)

theorem failKeeping_frame (l : Latch) (k : ErrKind) (s : State) : CompletionFrame l s (failKeeping k s) :=
  ⟨by constructor <;> rfl, rfl, rfl, rfl, rfl, fun _ _ => rfl⟩

include hwf

theorem failDrawing_frame (l : Latch) (k : ErrKind) : CompletionFrame l s (failDrawing l k s) :=
  ⟨by constructor <;> rfl, rfl, rfl, rfl, rfl, fun _ hout => Memory.get_drawOver_outside _ hwf hout⟩

theorem completeDrawn_frame (l : Latch) : CompletionFrame l s (completeDrawn l s) :=
  ⟨by constructor <;> rfl, rfl, rfl, rfl, rfl, fun _ hout => Memory.get_drawOver_outside _ hwf hout⟩

theorem succeed_frame {l : Latch} {r : Result} (hfit : r.data.length ≤ l.dstCap.toNat) :
    CompletionFrame l s (succeed l r s) :=
  ⟨by constructor <;> rfl, rfl, rfl, rfl, rfl, fun _ hout => Memory.get_write_outside _ hwf (by omega)⟩

theorem rejectCommand_frame (l : Latch) (tainted : Bool) (k : ErrKind) :
    CompletionFrame l s (rejectCommand l tainted k s) := by
  cases tainted with
  | true => exact completeDrawn_frame hwf l
  | false => exact failKeeping_frame l k s

theorem complete_frame {l : Latch} {rep : Report}
    (hfit : ∀ r, rep.verdict = .success r → r.data.length ≤ l.dstCap.toNat) :
    CompletionFrame l s (complete l rep s) := by
  have hfill : (fillCand rep.cand s).mem.wf = true := by rwa [fillCand_mem]
  apply CompletionFrame.of_fillCand (cand := rep.cand)
  obtain ⟨r, hv, hc⟩ | ⟨k, -, hc⟩ | ⟨k, -, hc⟩ := complete_cases l rep s <;> rw [hc]
  · exact succeed_frame hfill (hfit r hv)
  · exact failDrawing_frame hfill l k
  · exact failKeeping_frame l k _

theorem finishCommand_frame {l : Latch} {rep : Report} (tainted : Bool)
    (hfit : ∀ r, rep.verdict = .success r → r.data.length ≤ l.dstCap.toNat) :
    CompletionFrame l s (finishCommand l tainted rep s) := by
  cases tainted with
  | true => exact completeDrawn_frame hwf l
  | false => exact complete_frame hwf hfit

/-- Every command's next state while BUSY is a completion. -/
theorem exec_frame {i : Instr} {t : State} {l : Latch} {tainted : Bool} (hfmt : i.format = .cmd)
    (hp : s.phase = .busy l tainted) (h : exec i s = .next t) : CompletionFrame l s t := by
  obtain ⟨-, rule, hfits, hrun⟩ | ⟨hno, -⟩ := exec_form i
  · rw [hrun] at h
    obtain ⟨hidle, -⟩ | ⟨l', tainted', k, hp', -, rfl⟩ | ⟨l', tainted', hp', -, -, rfl⟩ := runCommand_next h
    · rw [hp] at hidle
      cases hidle
    · cases hp.symm.trans hp'
      exact rejectCommand_frame hwf l tainted k
    · cases hp.symm.trans hp'
      exact finishCommand_frame hwf tainted (hfits _ _ _)
  · exact absurd hfmt hno

end

/-- Settles O23: the frame of every completion, with `irq` from DONE. -/
theorem commandFrame : Obligations.CommandFrame := by
  intro i s t l tainted hfmt hwf hp h
  have hframe := exec_frame hwf hfmt hp h
  exact ⟨hframe.untouched, hframe.phase, hframe.work, hframe.done, hframe.drop, hframe.irq, hframe.elsewhere⟩

/-! ## The registers of an error completion -/

theorem failKeeping_errorRegisters (k : ErrKind) (s : State) : ErrorRegisters k s (failKeeping k s) := by
  refine ⟨?_, rfl, rfl, rfl, rfl, rfl, rfl, rfl, rfl, rfl, rfl, rfl, rfl, rfl, rfl, rfl⟩
  constructor <;> rfl

theorem failDrawing_errorRegisters (l : Latch) (k : ErrKind) (s : State) :
    ErrorRegisters k s (failDrawing l k s) := by
  refine ⟨?_, rfl, rfl, rfl, rfl, rfl, rfl, rfl, rfl, rfl, rfl, rfl, rfl, rfl, rfl, rfl⟩
  constructor <;> rfl

theorem ErrorRegisters.of_fillCand {k : ErrKind} {cand : Option (Vector Word 11)} {s t : State}
    (h : ErrorRegisters k (fillCand cand s) t) : ErrorRegisters k s t := by
  rw [fillCand_eq] at h
  exact { h with untouched := { h.untouched with } }

/-- A rejection leaves what R455 lists, CAND_SIZE and memory included (40_commands R162, R163). -/
theorem failKeeping_rejected (k : ErrKind) (s : State) : Rejected k s (failKeeping k s) :=
  ⟨failKeeping_errorRegisters k s, rfl, rfl⟩

/-- A completion by a report sets no error, or all that R455 lists for one kind. -/
theorem complete_errcode_or_errorRegisters (l : Latch) (rep : Report) (s : State) :
    ((complete l rep s).status.err = false ∧ (complete l rep s).status.errcode = 0) ∨
      ∃ k, ErrorRegisters k s (complete l rep s) := by
  obtain ⟨r, -, hc⟩ | ⟨k, -, hc⟩ | ⟨k, -, hc⟩ := complete_cases l rep s <;> rw [hc]
  · exact .inl ⟨rfl, rfl⟩
  · exact .inr ⟨k, (failDrawing_errorRegisters l k _).of_fillCand⟩
  · exact .inr ⟨k, (failKeeping_errorRegisters k _).of_fillCand⟩

/-- A completion writes CAND_SIZE only as its report fills it (10_state R52). -/
theorem complete_candSize (l : Latch) (rep : Report) (s : State) :
    (complete l rep s).candSize = rep.cand.getD s.candSize := by
  obtain ⟨r, -, hc⟩ | ⟨k, -, hc⟩ | ⟨k, -, hc⟩ := complete_cases l rep s <;> rw [hc, fillCand_eq] <;> rfl

/-! ## Untainted commands -/

/-- The frame of an untainted command: rejected by its checks, or completed by its rule's report. -/
theorem runCommand_untainted {checks : Params → Latch → Res Unit} {rule : Params → Latch → Bytes → Report}
    {s t : State} {l : Latch} (hp : s.phase = .busy l false) (h : runCommand checks rule s = .next t) :
    (∃ k, checks s.cfg l = .error k ∧ t = failKeeping k s) ∨
      (checks s.cfg l = .ok () ∧ t = complete l (rule s.cfg l (source l s)) s) := by
  obtain ⟨hidle, -⟩ | ⟨l', tainted, k, hp', hk, rfl⟩ | ⟨l', tainted, hp', hok, -, rfl⟩ := runCommand_next h
  · rw [hp] at hidle
    cases hidle
  · cases hp.symm.trans hp'
    exact .inl ⟨k, hk, rfl⟩
  · cases hp.symm.trans hp'
    exact .inr ⟨hok, rfl⟩

theorem exec_untainted {i : Instr} {s t : State} {l : Latch} (hfmt : i.format = .cmd) (hp : s.phase = .busy l false)
    (h : exec i s = .next t) :
    (∃ k, checksOf i s.cfg l = .error k ∧ t = failKeeping k s) ∨
      (checksOf i s.cfg l = .ok () ∧ ∃ rep, t = complete l rep s) := by
  obtain ⟨-, rule, -, hrun⟩ | ⟨hno, -⟩ := exec_form i
  · exact (runCommand_untainted hp (hrun s ▸ h)).imp_right fun ⟨hok, ht⟩ => ⟨hok, _, ht⟩
  · exact absurd hfmt hno

/-- An untainted command sets no error, or all that R455 lists for one kind. -/
theorem exec_errcode_or_errorRegisters {i : Instr} {s t : State} {l : Latch} (hfmt : i.format = .cmd)
    (hp : s.phase = .busy l false) (h : exec i s = .next t) :
    (t.status.err = false ∧ t.status.errcode = 0) ∨ ∃ k, ErrorRegisters k s t := by
  obtain ⟨k, -, rfl⟩ | ⟨-, rep, rfl⟩ := exec_untainted hfmt hp h
  · exact .inr ⟨k, failKeeping_errorRegisters k s⟩
  · exact complete_errcode_or_errorRegisters l rep s

/-- A command whose operand check fails is rejected with that check's kind (R163). -/
theorem exec_rejected {i : Instr} {s t : State} {l : Latch} {k : ErrKind} (hfmt : i.format = .cmd)
    (hp : s.phase = .busy l false) (h : exec i s = .next t) (hk : checksOf i s.cfg l = .error k) :
    Rejected k s t := by
  obtain ⟨k', hk', rfl⟩ | ⟨hok, -⟩ := exec_untainted hfmt hp h
  · cases hk.symm.trans hk'
    exact failKeeping_rejected k s
  · rw [hk] at hok
    cases hok

/-! ## CAND_SIZE -/

/-- The rows with a candidate phase: ENCODE and every ENCODE_M (10_state R52). -/
def candidateRows : List Instr := Instr.encode :: encodeMRows.map Prod.snd

/-- A command's rule that leaves CAND_SIZE alone. -/
def LeavesCand (i : Instr) : Prop :=
  ∃ rule : Params → Latch → Bytes → Report, (∀ P l S, (rule P l S).cand = none) ∧
    ∀ s, exec i s = runCommand (checksOf i) rule s

theorem leavesCand_of_not_candidateRow {i : Instr} (hfmt : i.format = .cmd) (hi : i ∉ candidateRows) :
    LeavesCand i := by
  cases i
  case encode | encodeM0 | encodeM1 | encodeM2 | encodeM3 | encodeM4 | encodeM5 | encodeM6 | encodeM7 | encodeM8
      | encodeM9 | encodeM10 =>
    exact absurd (by decide) hi
  case decode | decodeFast | decodeFastFb | hdrParse => exact ⟨_, fun _ _ _ => rfl, fun _ => rfl⟩
  case rlePack | rleUnpack | predEncDelta | predEncAvg | predEncPaeth | predDecDelta | predDecAvg | predDecPaeth
      | filtEncNone | filtEncSub | filtEncUp | filtEncAverage | filtEncPaeth | filtEncAdaptive | filtDec | zencDefault
      | zencFiltered | zencHuffman | zdec | palEnc | palDec =>
    exact ⟨_, fun _ _ _ => rfl, fun _ => rfl⟩
  all_goals cases hfmt

theorem LeavesCand.exec_candSize {i : Instr} (hi : LeavesCand i) {s t : State} {l : Latch}
    (hp : s.phase = .busy l false) (h : exec i s = .next t) : t.candSize = s.candSize := by
  obtain ⟨rule, hcand, hrun⟩ := hi
  rw [hrun] at h
  obtain ⟨k, -, rfl⟩ | ⟨-, rfl⟩ := runCommand_untainted hp h
  · rfl
  · rw [complete_candSize, hcand]
    rfl

/-- A command whose checks pass fills CAND_SIZE as its rule's report says. -/
theorem runCommand_candSize {checks : Params → Latch → Res Unit} {rule : Params → Latch → Bytes → Report} {s t : State}
    {l : Latch} (hp : s.phase = .busy l false) (hok : checks s.cfg l = .ok ()) (h : runCommand checks rule s = .next t) :
    t.candSize = (rule s.cfg l (source l s)).cand.getD s.candSize := by
  obtain ⟨k, hk, -⟩ | ⟨-, rfl⟩ := runCommand_untainted hp h
  · rw [hok] at hk
    cases hk
  · exact complete_candSize l _ s

/-- The entry of method m in the vector of a selection (45_encoder_selector R385). -/
theorem candVector_select (P : Params) (R : Bytes) (W H C : Nat) (m : Fin 11) :
    (candVector (select P R W H C).sizes)[m.val] = candEntry (encMethod P m.val R W H C) := by
  have hids : methodIds = List.range 11 := rfl
  simp [candVector, select, candidates, hids]

theorem candOnly_getElem (n : Nat) (entry : Word) (m : Fin 11) :
    (candOnly n entry)[m.val] = if m.val = n then entry else 0xFFFFFFFF := by
  rw [candOnly, Vector.getElem_ofFn]

theorem exec_encodeMRow : ∀ p ∈ encodeMRows, checksOf p.2 = checksEncode ∧
    ∀ s, exec p.2 s = runCommand checksEncode (ruleEncodeM p.1) s := by
  simp only [encodeMRows, List.forall_mem_cons]
  refine ⟨⟨rfl, fun _ => rfl⟩, ⟨rfl, fun _ => rfl⟩, ⟨rfl, fun _ => rfl⟩, ⟨rfl, fun _ => rfl⟩, ⟨rfl, fun _ => rfl⟩,
    ⟨rfl, fun _ => rfl⟩, ⟨rfl, fun _ => rfl⟩, ⟨rfl, fun _ => rfl⟩, ⟨rfl, fun _ => rfl⟩, ⟨rfl, fun _ => rfl⟩,
    ⟨rfl, fun _ => rfl⟩, List.forall_mem_nil _⟩

/-- Settles O24: an untainted command either is rejected or completes by its rule's report, and the report says what
CAND_SIZE holds. -/
theorem errorCompletion : Obligations.ErrorCompletion := by
  intro i s t l hfmt hwf hp h
  have hframe := exec_frame hwf hfmt hp h
  have hstatus := exec_errcode_or_errorRegisters hfmt hp h
  refine ⟨fun herr => ?_, fun herr => ⟨?_, hframe.irq, hframe.elsewhere, fun k => exec_rejected hfmt hp h,
    fun hi => (leavesCand_of_not_candidateRow hfmt hi).exec_candSize hp h, ?_, ?_⟩⟩
  · obtain ⟨-, hcode⟩ | ⟨k, hk⟩ := hstatus
    · exact hcode
    · rw [hk.err] at herr
      cases herr
  · obtain ⟨hno, -⟩ | hkind := hstatus
    · rw [hno] at herr
      cases herr
    · exact hkind
  · rintro rfl hok m
    have hcand := runCommand_candSize hp hok h
    rw [hcand]
    exact candVector_select _ _ _ _ _ m
  · rintro ⟨n, j⟩ hrow rfl hok m
    obtain ⟨hchecks, hrun⟩ := exec_encodeMRow _ hrow
    rw [hrun] at h
    rw [hchecks] at hok
    rw [runCommand_candSize hp hok h]
    refine (candOnly_getElem n _ m).trans ?_
    split
    next hm => subst hm; rfl
    next => rfl

end Sys2Proof.Machine
end

section
/-! Windows (20_memory R81, R85 to R87, R93): what membership in a window, the window checks and the search for a
device say of addresses, and when an instruction is refused. -/

namespace Sys2Proof.Machine

/-! ## Addresses of a window -/

theorem inWindow_iff {base len : Word} {a : Nat} :
    inWindow base len a = true ↔ base.toNat ≤ a ∧ a < base.toNat + len.toNat := by
  simp only [inWindow, Bool.and_eq_true, decide_eq_true_eq]

theorem not_allFrom_not_iff (p : Nat → Bool) (n a : Nat) :
    (!allFrom (fun x => !p x) n a) = true ↔ ∃ x, a ≤ x ∧ x < a + n ∧ p x = true := by
  rw [Bool.not_eq_true', ← Bool.not_eq_true, allFrom_iff]
  simp

theorem Params.inBlock_iff {P : Params} {a : Nat} :
    P.inBlock a = true ↔ P.engineBase ≤ a ∧ a < P.engineBase + 256 := by
  simp only [Params.inBlock, Bool.and_eq_true, decide_eq_true_eq]

/-! ## The window checks -/

theorem fitsSpace_iff {base len : Word} : fitsSpace base len = true ↔ base.toNat + len.toNat ≤ 2 ^ 32 := by
  rw [fitsSpace, decide_eq_true_eq, addressSpace]

theorem onMemory_iff {P : Params} {base len : Word} :
    onMemory P base len = true ↔ ∀ a, base.toNat ≤ a ∧ a < base.toNat + len.toNat →
      P.memOk a = true ∧ ¬(P.engineBase ≤ a ∧ a < P.engineBase + 256) := by
  simp only [onMemory, allFrom_iff, Bool.and_eq_true, Bool.not_eq_true', ← Bool.not_eq_true, Params.inBlock_iff, and_imp]

/-- R87 by the bounds of the windows: the higher of the two bases is a shared address. -/
theorem Latch.windowsMeet_iff {l : Latch} :
    l.windowsMeet = true ↔ ∃ a, (l.srcAddr.toNat ≤ a ∧ a < l.srcAddr.toNat + l.srcLen.toNat) ∧
      (l.dstAddr.toNat ≤ a ∧ a < l.dstAddr.toNat + l.dstCap.toNat) := by
  simp only [Latch.windowsMeet, Bool.and_eq_true, decide_eq_true_eq]
  constructor
  · rintro ⟨⟨⟨hsrc, hdst⟩, hlo⟩, hhi⟩
    exact ⟨max l.srcAddr.toNat l.dstAddr.toNat, by omega, by omega⟩
  · rintro ⟨a, hsrc, hdst⟩
    omega

theorem require_ne_ok {c : Bool} {k : ErrKind} (h : require c k ≠ .ok ()) : require c k = .error k := by
  cases c with
  | true => exact absurd rfl h
  | false => rfl

/-- Settles O18: each conjunct of `chk_win` says its rule of the windows' addresses. -/
theorem windowCheck : Obligations.WindowCheck := by
  intro P l
  refine ⟨?_, require_ne_ok⟩
  rw [chkWin, require_ok]
  simp only [Bool.and_eq_true, Bool.not_eq_true', ← Bool.not_eq_true, fitsSpace_iff, onMemory_iff,
    Latch.windowsMeet_iff]
  constructor
  · rintro ⟨⟨⟨⟨hsrc, hdst⟩, hsrcMem⟩, hdstMem⟩, hmeet⟩
    exact ⟨hsrc, hdst, fun a ha => ha.elim (hsrcMem a) (hdstMem a), hmeet⟩
  · rintro ⟨hsrc, hdst, hmem, hmeet⟩
    exact ⟨⟨⟨⟨hsrc, hdst⟩, fun a ha => hmem a (.inl ha)⟩, fun a ha => hmem a (.inr ha)⟩, hmeet⟩

/-! ## Windows over a device -/

theorem onDevice_iff {P : Params} {base len : Word} :
    onDevice P base len = true ↔ ∃ a, inWindow base len a = true ∧ P.isDevice a = true := by
  simp only [onDevice, not_allFrom_not_iff, inWindow_iff, and_assoc]

theorem Latch.overDevice_iff {P : Params} {l : Latch} :
    l.overDevice P = true ↔ ∃ a, (l.inSrc a = true ∨ l.inDst a = true) ∧ P.isDevice a = true := by
  simp only [Latch.overDevice, Bool.or_eq_true, onDevice_iff, ← exists_or, ← or_and_right]
  rfl

/-- A command that passes its checks with a window over a device is refused (R93). -/
theorem runCommand_refuses {checks : Params → Latch → Res Unit} {rule : Params → Latch → Bytes → Report} {s : State}
    {l : Latch} {tainted : Bool} (hp : s.phase = .busy l tainted) (hc : checks s.cfg l = .ok ())
    (hd : l.overDevice s.cfg = true) : runCommand checks rule s = .refused .deviceWindow := by
  simp only [runCommand, hp, hc, hd, if_true]

/-- The frame of a command refuses where R93 says so and otherwise answers a next state. -/
theorem runCommand_total (checks : Params → Latch → Res Unit) (rule : Params → Latch → Bytes → Report) (s : State) :
    (∃ t, runCommand checks rule s = .next t) ∨
      (runCommand checks rule s = .refused .deviceWindow ∧ ∃ l tainted, s.phase = .busy l tainted ∧
        checks s.cfg l = .ok () ∧ l.overDevice s.cfg = true) := by
  cases hp : s.phase with
  | idle => exact .inl ⟨s, by simp only [runCommand, hp]⟩
  | busy l tainted =>
    cases hc : checks s.cfg l with
    | error k => exact .inl ⟨_, runCommand_rejects hp hc⟩
    | ok _ =>
      cases hd : l.overDevice s.cfg with
      | false => exact .inl ⟨_, runCommand_ok hp hc hd⟩
      | true => exact .inr ⟨runCommand_refuses hp hc hd, l, tainted, rfl, hc, hd⟩

theorem runCommand_refused_iff {checks : Params → Latch → Res Unit} {rule : Params → Latch → Bytes → Report}
    {s : State} :
    runCommand checks rule s = .refused .deviceWindow ↔ ∃ l tainted, s.phase = .busy l tainted ∧
      checks s.cfg l = .ok () ∧ l.overDevice s.cfg = true := by
  constructor
  · intro h
    obtain ⟨t, ht⟩ | ⟨-, hover⟩ := runCommand_total checks rule s
    · rw [ht] at h
      cases h
    · exact hover
  · rintro ⟨l, tainted, hp, hc, hd⟩
    exact runCommand_refuses hp hc hd

/-- A byte code always answers a next state. -/
theorem runStage_total (f : Params → Work → Work) (s : State) : ∃ t, runStage f s = .next t := by
  cases hp : s.phase with
  | idle => exact ⟨s, by simp only [runStage, hp]⟩
  | busy l tainted => exact ⟨_, runStage_busy hp⟩

/-- Settles O22: a command is its frame, which alone can refuse, and a byte code never refuses. -/
theorem onlyDeviceWindowsStop : Obligations.OnlyDeviceWindowsStop := by
  intro i s
  simp only [← Latch.overDevice_iff]
  obtain ⟨hfmt, rule, -, hrun⟩ | ⟨hno, g, hrun⟩ := exec_form i <;> rw [hrun]
  · exact ⟨(runCommand_total _ rule s).imp_right And.left, by simp only [runCommand_refused_iff, hfmt, true_and]⟩
  · obtain ⟨t, ht⟩ := runStage_total g s
    refine ⟨.inl ⟨t, ht⟩, fun h => ?_, fun h => absurd h.1 hno⟩
    rw [ht] at h
    cases h

end Sys2Proof.Machine
end

section
/-! The host's accesses to memory (20_memory R80, R82, R99): where an access lands, what a write marks, and which bytes
a read returns. -/

namespace Sys2Proof.Machine

theorem holdsMemory_iff {P : Params} {a : Nat} :
    holdsMemory P a = true ↔ a < addressSpace ∧ P.memOk a = true ∧ P.inBlock a = false := by
  simp only [holdsMemory, Bool.and_eq_true, decide_eq_true_eq, Bool.not_eq_true', and_assoc]

/-- An access all of whose addresses hold ordinary memory goes to memory (log 17). -/
theorem targetOf_eq_memory {P : Params} {a n : Nat}
    (h : ∀ x, a ≤ x → x < a + n → holdsMemory P x = true ∧ P.isDevice x = false) : targetOf P a n = .memory := by
  have hblock : allFrom (fun x => !P.inBlock x) n a = true := (allFrom_iff _ _ _).2 fun x hlo hhi => by
    obtain ⟨-, -, hout⟩ := holdsMemory_iff.1 (h x hlo hhi).1
    rw [hout, Bool.not_false]
  have hmem : allFrom (fun x => decide (x < addressSpace) && P.memOk x) n a = true :=
    (allFrom_iff _ _ _).2 fun x hlo hhi => by
      obtain ⟨hspace, hok, -⟩ := holdsMemory_iff.1 (h x hlo hhi).1
      rw [decide_eq_true hspace, hok, Bool.true_and]
  have hdev : allFrom (fun x => !P.isDevice x) n a = true := (allFrom_iff _ _ _).2 fun x hlo hhi => by
    rw [(h x hlo hhi).2, Bool.not_false]
  rw [targetOf, if_pos hblock, if_pos hmem, if_pos hdev]

/-! ## Writes -/

theorem step_storeBytes {s : State} {a : Word} {data : Bytes} {rest : List Event}
    (h : s.inputs = .busWrite a data :: rest) (ht : targetOf s.cfg a.toNat data.length = .memory) :
    step s = .next (storeBytes a.toNat data { s with inputs := rest }) := by
  rw [step_of_inputs h]
  simp only [runEvent, busWrite, ht]

theorem hitsWindow_iff {l : Latch} {a n : Nat} :
    hitsWindow l a n = true ↔ ∃ x, a ≤ x ∧ x < a + n ∧ (l.inSrc x = true ∨ l.inDst x = true) := by
  simp only [hitsWindow, not_allFrom_not_iff, Bool.or_eq_true]

/-- A range whose addresses all hold memory does not pass the top of the address space (R80). -/
theorem fits_of_holdsMemory {P : Params} {a n : Nat} (ha : a < addressSpace)
    (h : ∀ x, a ≤ x → x < a + n → holdsMemory P x = true) : a + n ≤ addressSpace := by
  cases n with
  | zero => exact Nat.le_of_lt ha
  | succ n =>
    obtain ⟨hlast, -⟩ := holdsMemory_iff.1 (h (a + n) (by omega) (by omega))
    exact hlast

/-- Settles O25: the step is `storeBytes`, which marks the phase by `hitsWindow` and writes the bytes. -/
theorem bufferHazard : Obligations.BufferHazard := by
  intro s l tainted a data rest hwf hp hin hmem
  have hfit : a.toNat + data.length ≤ addressSpace := fits_of_holdsMemory a.isLt fun x hlo hhi => (hmem x hlo hhi).1
  refine ⟨_, step_storeBytes hin (targetOf_eq_memory hmem),
    ⟨tainted || hitsWindow l a.toNat data.length, ?_, ?_⟩, fun i b hb => ?_, fun x hout => ?_, rfl⟩
  · rw [storeBytes_phase, hp]
    rfl
  · rw [Bool.or_eq_true, hitsWindow_iff]
  · exact Memory.get_write_inside hwf hfit hb
  · exact Memory.get_write_outside data hwf hout

/-! ## Reads -/

theorem step_loadBytes {s : State} {a : Word} {n : Nat} {rest : List Event}
    (h : s.inputs = .busRead a n :: rest) (ht : targetOf s.cfg a.toNat n = .memory) :
    step s = .next (loadBytes a.toNat n { s with inputs := rest }) := by
  rw [step_of_inputs h]
  simp only [runEvent, busRead, ht]

@[simp] theorem hostBytes_length (p : Phase) (m : Memory) (n d a : Nat) : (hostBytes p m n d a).length = n := by
  induction n generalizing d a with
  | zero => rfl
  | succ n ih => rw [hostBytes, List.length_cons, ih]

/-- The i-th byte of a host read is that of address `a + i`, drawn if at all as the free value `d + i`. -/
theorem hostBytes_getElem? (p : Phase) (m : Memory) {n i : Nat} (d a : Nat) (hi : i < n) :
    (hostBytes p m n d a)[i]? = some (hostByte p m (d + i) (a + i)) := by
  induction n generalizing i d a with
  | zero => omega
  | succ n ih =>
    cases i with
    | zero => rfl
    | succ i =>
      rw [hostBytes, List.getElem?_cons_succ, ih (d + 1) (a + 1) (by omega), Nat.add_right_comm d, Nat.add_right_comm a]
      rfl

/-- Outside the destination window of a running command a host read returns memory (R99). -/
theorem hostByte_outside {p : Phase} (m : Memory) (d : Nat) {a : Nat}
    (h : ∀ l tainted, p = .busy l tainted → l.inDst a = false) : hostByte p m d a = m.get a := by
  cases p with
  | idle => rfl
  | busy l tainted => rw [hostByte, h l tainted rfl, if_neg Bool.false_ne_true]

/-- Settles O26: the step is `loadBytes`, which changes the read data and the draws only. -/
theorem hostRead : Obligations.HostRead := by
  intro s a n rest hin hmem
  refine ⟨_, step_loadBytes hin (targetOf_eq_memory hmem), rfl, hostBytes_length _ _ _ _ _, fun i hi hout => ?_⟩
  rw [loadBytes_rdata, hostBytes_getElem? _ _ _ _ hi, hostByte_outside _ _ hout]

end Sys2Proof.Machine
end

section
/-! A command's result is a function of its record, the parameters and its source bytes (20_memory R100): two runs that
agree on these are rejected with one kind or completed by one report, and each completion writes the same values. -/

namespace Sys2Proof.Machine

/-- The bytes written to a range are the bytes it reads (20_memory R82, R83). -/
theorem Memory.read_write_same {m : Memory} {a : Nat} (bs : Bytes) (h : m.wf = true)
    (hfit : a + bs.length ≤ addressSpace) : (m.write a bs).read a bs.length = bs := by
  apply List.ext_getElem?
  intro i
  rw [Memory.read_getElem?]
  split
  next hi => rw [List.getElem?_eq_getElem hi, Memory.get_write_inside h hfit (List.getElem?_eq_getElem hi)]
  next hi => rw [List.getElem?_eq_none (by omega)]

/-! ## Two completions with one result -/

/-- The completions `t₁` of `s₁` and `t₂` of `s₂` have the same result (R100). DROP belongs to the host's accesses, and
CAND_SIZE keeps what it held unless the command fills it. -/
structure SameResult (l : Latch) (s₁ s₂ t₁ t₂ : State) : Prop where
  status : { t₁.status with drop := false } = { t₂.status with drop := false }
  dstLen : t₁.dstLen = t₂.dstLen
  resW : t₁.resW = t₂.resW
  resH : t₁.resH = t₂.resH
  resCh : t₁.resCh = t₂.resCh
  candSize : s₁.candSize = s₂.candSize → t₁.candSize = t₂.candSize
  written : t₁.status.err = false →
    t₁.mem.read l.dstAddr.toNat t₁.dstLen.toNat = t₂.mem.read l.dstAddr.toNat t₁.dstLen.toNat

theorem SameResult.of_fillCand {l : Latch} {cand : Option (Vector Word 11)} {s₁ s₂ t₁ t₂ : State}
    (h : SameResult l (fillCand cand s₁) (fillCand cand s₂) t₁ t₂) : SameResult l s₁ s₂ t₁ t₂ := by
  refine { h with candSize := fun hc => h.candSize ?_ }
  simp only [fillCand_eq, hc]

theorem failKeeping_sameResult (l : Latch) (k : ErrKind) (s₁ s₂ : State) :
    SameResult l s₁ s₂ (failKeeping k s₁) (failKeeping k s₂) :=
  ⟨rfl, rfl, rfl, rfl, rfl, id, fun h => by cases h⟩

theorem failDrawing_sameResult (l : Latch) (k : ErrKind) (s₁ s₂ : State) :
    SameResult l s₁ s₂ (failDrawing l k s₁) (failDrawing l k s₂) :=
  ⟨rfl, rfl, rfl, rfl, rfl, id, fun h => by cases h⟩

section
variable {l : Latch} {s₁ s₂ : State} (hwf₁ : s₁.mem.wf = true) (hwf₂ : s₂.mem.wf = true)
  (hspace : l.dstAddr.toNat + l.dstCap.toNat ≤ addressSpace)
include hwf₁ hwf₂ hspace

theorem succeed_sameResult {r : Result} (hfit : r.data.length ≤ l.dstCap.toNat) :
    SameResult l s₁ s₂ (succeed l r s₁) (succeed l r s₂) := by
  refine ⟨rfl, rfl, rfl, rfl, rfl, id, fun _ => ?_⟩
  have hlen : (BitVec.ofNat 32 r.data.length).toNat = r.data.length := by
    rw [BitVec.toNat_ofNat, Nat.mod_eq_of_lt (Nat.lt_of_le_of_lt hfit l.dstCap.isLt)]
  have hdata : l.dstAddr.toNat + r.data.length ≤ addressSpace := by omega
  rw [succeed_dstLen, hlen, succeed_mem, succeed_mem, Memory.read_write_same _ hwf₁ hdata,
    Memory.read_write_same _ hwf₂ hdata]

theorem complete_sameResult {rep : Report} (hfit : ∀ r, rep.verdict = .success r → r.data.length ≤ l.dstCap.toNat) :
    SameResult l s₁ s₂ (complete l rep s₁) (complete l rep s₂) := by
  apply SameResult.of_fillCand (cand := rep.cand)
  unfold complete
  split
  next r hv =>
    exact succeed_sameResult (by rwa [fillCand_mem]) (by rwa [fillCand_mem]) hspace (hfit r hv)
  next k _ => exact failDrawing_sameResult l k _ _
  next k _ => exact failKeeping_sameResult l k _ _

end

/-! ## Two runs of one command -/

/-- Two untainted runs that agree on the parameters and the source bytes are rejected with one kind, or pass the checks
and complete by one report. -/
theorem exec_same_completion {i : Instr} {s₁ s₂ t₁ t₂ : State} {l : Latch} (hfmt : i.format = .cmd)
    (hp₁ : s₁.phase = .busy l false) (hp₂ : s₂.phase = .busy l false) (hcfg : s₁.cfg = s₂.cfg)
    (hsrc : source l s₁ = source l s₂) (h₁ : exec i s₁ = .next t₁) (h₂ : exec i s₂ = .next t₂) :
    (∃ k, t₁ = failKeeping k s₁ ∧ t₂ = failKeeping k s₂) ∨
      (checksOf i s₁.cfg l = .ok () ∧ ∃ rep : Report,
        (∀ r, rep.verdict = .success r → r.data.length ≤ l.dstCap.toNat) ∧
        t₁ = complete l rep s₁ ∧ t₂ = complete l rep s₂) := by
  obtain ⟨-, rule, hfits, hrun⟩ | ⟨hno, -⟩ := exec_form i
  · have hcase₁ := runCommand_untainted hp₁ (hrun s₁ ▸ h₁)
    have hcase₂ := runCommand_untainted hp₂ (hrun s₂ ▸ h₂)
    rw [← hcfg, ← hsrc] at hcase₂
    cases hc : checksOf i s₁.cfg l with
    | error k =>
      simp only [hc, Except.error.injEq, reduceCtorEq, false_and, or_false, exists_eq_left'] at hcase₁ hcase₂
      exact .inl ⟨k, hcase₁, hcase₂⟩
    | ok _ =>
      simp only [hc, reduceCtorEq, false_and, exists_false, false_or, true_and] at hcase₁ hcase₂
      exact .inr ⟨rfl, _, hfits _ _ _, hcase₁, hcase₂⟩
  · exact absurd hfmt hno

/-- Settles O28: the two runs complete alike, and a destination window that passed its checks holds the bytes
written. -/
theorem resultDependsOnSource : Obligations.ResultDependsOnSource := by
  intro i s₁ s₂ t₁ t₂ l hfmt hwf₁ hwf₂ hp₁ hp₂ hcfg hsrc h₁ h₂
  have hsame : SameResult l s₁ s₂ t₁ t₂ := by
    obtain ⟨k, rfl, rfl⟩ | ⟨hok, rep, hfit, rfl, rfl⟩ := exec_same_completion hfmt hp₁ hp₂ hcfg hsrc h₁ h₂
    · exact failKeeping_sameResult l k s₁ s₂
    · exact complete_sameResult hwf₁ hwf₂ (chkWin_dst (checksOf_win hfmt hok)).1 hfit
  exact ⟨hsame.status, hsame.dstLen, hsame.resW, hsame.resH, hsame.resCh, hsame.candSize, hsame.written⟩

end Sys2Proof.Machine
end

section
/-! Decoding and encoding (30_encoding R110 to R133): the fields of a word and of the code an encoder builds from
fields, the row that fields name, and the one code of each row. -/

namespace Sys2Proof

open Machine

/-! ## Fields of a command word -/

theorem bool_toNat_injective : Function.Injective Bool.toNat := Function.LeftInverse.injective Bool.ofNat_toNat

theorem cmdM_eq (w : Word) : cmdM w = w.toNat / 256 % 16 := by
  rw [cmdM, BitVec.extractLsb'_toNat, Nat.shiftRight_eq_div_pow]

theorem cmdF_toNat (w : Word) : (cmdF w).toNat = w.toNat / 4096 % 2 := by
  rw [cmdF, BitVec.getLsbD, Nat.toNat_testBit]

theorem cmdRsvd_eq (w : Word) : cmdRsvd w = w.toNat / 8192 := by
  rw [cmdRsvd, BitVec.extractLsb'_toNat, Nat.shiftRight_eq_div_pow]
  have := w.isLt
  omega

/-- The fields of R110 make up the word. -/
theorem cmdWord_fields {w : Word} (h : cmdRsvd w = 0) : cmdWord (cmdOp w) (cmdM w) (cmdF w) = w := by
  apply BitVec.eq_of_toNat_eq
  rw [cmdRsvd_eq] at h
  rw [cmdWord, BitVec.toNat_ofNat, cmdOp_eq, cmdM_eq, cmdF_toNat]
  omega

section
variable {op m : Nat} (f : Bool) (hop : op < 256) (hm : m < 16)
include hop hm

theorem cmdWord_toNat : (cmdWord op m f).toNat = op + 256 * m + 4096 * f.toNat := by
  have hf := f.toNat_lt
  rw [cmdWord, BitVec.toNat_ofNat, Nat.mod_eq_of_lt (by omega)]

theorem cmdOp_cmdWord : cmdOp (cmdWord op m f) = op := by
  rw [cmdOp_eq, cmdWord_toNat f hop hm]
  omega

theorem cmdM_cmdWord : cmdM (cmdWord op m f) = m := by
  rw [cmdM_eq, cmdWord_toNat f hop hm]
  omega

theorem cmdF_cmdWord : cmdF (cmdWord op m f) = f := by
  have hf := f.toNat_lt
  apply bool_toNat_injective
  rw [cmdF_toNat, cmdWord_toNat f hop hm]
  omega

theorem cmdRsvd_cmdWord : cmdRsvd (cmdWord op m f) = 0 := by
  have hf := f.toNat_lt
  rw [cmdRsvd_eq, cmdWord_toNat f hop hm]
  omega

end

/-! ## Rows of command words -/

theorem opListed_iff {op : Nat} : opListed op = true ↔ op ∈ listedOps := by
  simp only [opListed, listedOps, Bool.or_eq_true, Bool.and_eq_true, decide_eq_true_eq, List.mem_cons,
    List.not_mem_nil, or_false]
  omega

/-- The rows are those of R111 to R113: a listed OP, F on DECODE_FAST only, and a legal M. -/
theorem cmdRow_eq_some_legal {op m : Nat} {f : Bool} {i : Instr} (h : cmdRow op m f = some i) :
    op ∈ listedOps ∧ (f = false ∨ op = 0x04) ∧ m ∈ legalModes op := by
  unfold cmdRow at h
  split at h
  case h_38 => cases h
  all_goals decide

/-- Every legal M of a listed OP has a row without F (R112). -/
theorem cmdRow_legalModes : ∀ op ∈ listedOps, ∀ m ∈ legalModes op, (cmdRow op m false).isSome = true := by decide

theorem cmdRow_exists_iff {op m : Nat} {f : Bool} :
    (∃ i, cmdRow op m f = some i) ↔ op ∈ listedOps ∧ (f = false ∨ op = 0x04) ∧ m ∈ legalModes op := by
  constructor
  · rintro ⟨i, h⟩
    exact cmdRow_eq_some_legal h
  · rintro ⟨hop, hf, hm⟩
    cases f with
    | false => exact Option.isSome_iff_exists.1 (cmdRow_legalModes op hop m hm)
    | true =>
      obtain rfl : op = 0x04 := hf.resolve_left Bool.noConfusion
      obtain rfl : m = 0 := List.mem_singleton.1 hm
      exact ⟨.decodeFastFb, rfl⟩

theorem listedOps_lt : ∀ op ∈ listedOps, op < 256 := by decide

theorem legalModes_le : ∀ op ∈ listedOps, ∀ m ∈ legalModes op, m ≤ 10 := by decide

/-- The row of fields is encoded by the word of these fields (R110). -/
theorem encode_of_cmdRow {op m : Nat} {f : Bool} {i : Instr} (h : cmdRow op m f = some i) :
    encode i = .cmd (cmdWord op m f) := by
  unfold cmdRow at h
  split at h
  case h_38 => cases h
  all_goals
    cases h
    rfl

/-! ## decode_cmd -/

section
variable {w : Word}

theorem decodeCmd_reserved (h : cmdRsvd w ≠ 0) : decodeCmd w = .illegal := if_pos h

theorem decodeCmd_unlisted (h : cmdOp w ∉ listedOps) : decodeCmd w = .illegal := by
  have hop : opListed (cmdOp w) = false := Bool.eq_false_iff.2 (mt opListed_iff.1 h)
  rw [decodeCmd, if_pos hop, ite_self]

theorem decodeCmd_flag (hf : cmdF w = true) (hop : cmdOp w ≠ 0x04) : decodeCmd w = .illegal := by
  have hflag : cmdF w = true ∧ cmdOp w ≠ 0x04 := ⟨hf, hop⟩
  rw [decodeCmd, if_pos hflag, ite_self, ite_self]

theorem decodeCmd_unsupported (hr : cmdRsvd w = 0) (hf : cmdF w = false) (hop : cmdOp w = 0x02) (hm : 11 ≤ cmdM w) :
    decodeCmd w = .unsupported (cmdM w) := by
  have hlisted : opListed (cmdOp w) = true := by rw [hop]; rfl
  have hid : cmdOp w = 0x02 ∧ 11 ≤ cmdM w := ⟨hop, hm⟩
  simp only [decodeCmd, if_neg (not_not.2 hr), hlisted, hf, Bool.true_eq_false, Bool.false_eq_true, false_and, if_false,
    if_pos hid]

theorem decodeCmd_no_row (hm : ¬(cmdOp w = 0x02 ∧ 11 ≤ cmdM w)) (h : cmdRow (cmdOp w) (cmdM w) (cmdF w) = none) :
    decodeCmd w = .illegal := by
  simp only [decodeCmd, if_neg hm, h, ite_self]

/-- Where the fields name a row, the checks of OP, F and M pass. -/
theorem decodeCmd_row {i : Instr} (hr : cmdRsvd w = 0) (h : cmdRow (cmdOp w) (cmdM w) (cmdF w) = some i) :
    decodeCmd w = .instr i := by
  obtain ⟨hop, hf, hmode⟩ := cmdRow_eq_some_legal h
  have hm : cmdM w ≤ 10 := legalModes_le _ hop _ hmode
  have hlisted : ¬opListed (cmdOp w) = false := by rw [opListed_iff.2 hop]; exact Bool.noConfusion
  have hflag : ¬(cmdF w = true ∧ cmdOp w ≠ 0x04) := by
    rintro ⟨ht, hne⟩
    exact Bool.noConfusion (ht.symm.trans (hf.resolve_right hne))
  have hid : ¬(cmdOp w = 0x02 ∧ 11 ≤ cmdM w) := by omega
  simp only [decodeCmd, if_neg (not_not.2 hr), if_neg hlisted, if_neg hflag, if_neg hid, h]

/-- A word decodes to the row its fields name: every check of R115 but that of RSVD is one of the row's. -/
theorem decodeCmd_eq_instr_iff {i : Instr} :
    decodeCmd w = .instr i ↔ cmdRsvd w = 0 ∧ cmdRow (cmdOp w) (cmdM w) (cmdF w) = some i := by
  refine ⟨fun h => ?_, fun ⟨hr, h⟩ => decodeCmd_row hr h⟩
  unfold decodeCmd at h
  split_ifs at h with hr
  split at h
  next j hrow =>
    cases h
    exact ⟨not_not.1 hr, hrow⟩
  next => cases h

end

/-! ## FLAGS bytes -/

theorem flagsMethod_eq (b : Byte) : flagsMethod b = b.toNat % 16 := by
  rw [flagsMethod, BitVec.extractLsb'_toNat, Nat.shiftRight_zero]

theorem flagsAlpha_toNat (b : Byte) : (flagsAlpha b).toNat = b.toNat / 16 % 2 := by
  rw [flagsAlpha, BitVec.getLsbD, Nat.toNat_testBit]

section
variable {m : Nat} (fl : Flags) (hm : m < 16)
include hm

theorem flagsByte_toNat : (flagsByte m fl).toNat = m + 16 * fl.alpha.toNat + 32 * fl.rsvd.toNat := by
  have ha := fl.alpha.toNat_lt
  have hr := fl.rsvd.isLt
  rw [flagsByte, BitVec.toNat_ofNat, Nat.mod_eq_of_lt (by omega)]

theorem flagsMethod_flagsByte : flagsMethod (flagsByte m fl) = m := by
  rw [flagsMethod_eq, flagsByte_toNat fl hm]
  omega

theorem flagsAlpha_flagsByte : flagsAlpha (flagsByte m fl) = fl.alpha := by
  have ha := fl.alpha.toNat_lt
  apply bool_toNat_injective
  rw [flagsAlpha_toNat, flagsByte_toNat fl hm]
  omega

end

/-- The METHOD and ALPHA fields make up the low five bits of a FLAGS byte (R119). -/
theorem flagsByte_fields (b : Byte) : flagsByte (flagsMethod b) { alpha := flagsAlpha b } = b &&& 0x1F := by
  have hm : flagsMethod b < 16 := by
    rw [flagsMethod_eq]
    omega
  have hlow : (b &&& 0x1F).toNat = b.toNat % 32 := Nat.and_two_pow_sub_one_eq_mod b.toNat 5
  apply BitVec.eq_of_toNat_eq
  rw [flagsByte_toNat _ hm, hlow, flagsMethod_eq, flagsAlpha_toNat]
  change b.toNat % 16 + 16 * (b.toNat / 16 % 2) + 32 * 0 = b.toNat % 32
  omega

/-- A method id has a row exactly up to 10 (R120). -/
theorem methodRow_exists {m : Nat} (fl : Flags) (h : m ≤ 10) : ∃ i, methodRow m fl = some i := by
  interval_cases m <;> exact ⟨_, rfl⟩

theorem methodRow_none {m : Nat} (fl : Flags) (h : 10 < m) : methodRow m fl = none := by
  unfold methodRow
  split
  case h_12 => rfl
  all_goals omega

theorem methodRow_eq_some_le {m : Nat} {fl : Flags} {i : Instr} (h : methodRow m fl = some i) : m ≤ 10 := by
  by_contra hm
  rw [methodRow_none fl (by omega)] at h
  cases h

theorem wellFormed_of_methodRow {m : Nat} {fl : Flags} {i : Instr} (h : methodRow m fl = some i) :
    i.wellFormed = fl.wellFormed := by
  unfold methodRow at h
  split at h
  case h_12 => cases h
  all_goals
    cases h
    rfl

/-- The row of a method id is encoded by the FLAGS byte of this id (R119). -/
theorem encode_of_methodRow {m : Nat} {fl : Flags} {i : Instr} (h : methodRow m fl = some i) :
    encode i = .flags (flagsByte m fl) := by
  unfold methodRow at h
  split at h
  case h_12 => cases h
  all_goals
    cases h
    rfl

theorem decodeFlags_row {b : Byte} {i : Instr} (h : methodRow (flagsMethod b) { alpha := flagsAlpha b } = some i) :
    decodeFlags b = .instr i := by
  simp only [decodeFlags, h]

theorem decodeFlags_unsupported {b : Byte} (h : 10 < flagsMethod b) : decodeFlags b = .unsupported (flagsMethod b) := by
  simp only [decodeFlags, methodRow_none _ h]

theorem Flags.wellFormed_iff {fl : Flags} : fl.wellFormed = true ↔ fl = { alpha := fl.alpha } := by
  cases fl
  simp only [Flags.wellFormed, beq_iff_eq, Flags.mk.injEq, true_and]

/-! ## Tags -/

/-- A row tag is one of the five of R129, and its own code, or it is invalid (R251). -/
theorem decodeRowTag_cases (b : Byte) :
    (b.toNat ≤ 4 ∧ ∃ i, decodeRowTag b = .instr i ∧ encode i = .rowTag b) ∨
      (4 < b.toNat ∧ decodeRowTag b = .corrupt b) := by
  unfold decodeRowTag
  split
  case h_6 => exact .inr ⟨by simp only [imp_false] at *; omega, rfl⟩
  all_goals
    rename_i h
    exact .inl ⟨by omega, _, rfl, congrArg Code.rowTag (BitVec.eq_of_toNat_eq h.symm)⟩

/-- A method-4 tag is one of the three of R125, and its own code, or it is invalid. -/
theorem decodeM4Tag_cases (b : Byte) :
    (b.toNat ≤ 2 ∧ ∃ i, decodeM4Tag b = .instr i ∧ encode i = .m4Tag b) ∨
      (2 < b.toNat ∧ decodeM4Tag b = .corrupt b) := by
  unfold decodeM4Tag
  split
  case h_4 => exact .inr ⟨by simp only [imp_false] at *; omega, rfl⟩
  all_goals
    rename_i h
    exact .inl ⟨by omega, _, rfl, congrArg Code.m4Tag (BitVec.eq_of_toNat_eq h.symm)⟩

/-! ## The code of each instruction -/

/-- Every instruction is a row of one of the four formats, and its code is built from the row's fields. -/
theorem encode_cases (i : Instr) :
    (∃ op m f, encode i = .cmd (cmdWord op m f) ∧ cmdRow op m f = some i) ∨
      (∃ m fl, encode i = .flags (flagsByte m fl) ∧ methodRow m fl = some i) ∨
      (∃ b, encode i = .rowTag b ∧ decodeRowTag b = .instr i) ∨
      ∃ b, encode i = .m4Tag b ∧ decodeM4Tag b = .instr i := by
  cases i
  case method0Identity | method1RleZ | method2Z | method3ZBestStrategy | method4PredZ | method5PaletteZ |
      method6AdaptiveFilterZ | method7UniformFilterZ | method8RleFilterZ | method9AdaptiveFilterZ2 |
      method10UniformFilterZ2 => exact .inr (.inl ⟨_, _, rfl, rfl⟩)
  case filterTag0None | filterTag1Sub | filterTag2Up | filterTag3Average | filterTag4Paeth =>
    exact .inr (.inr (.inl ⟨_, rfl, rfl⟩))
  case predTag0Delta | predTag1Avg | predTag2Paeth => exact .inr (.inr (.inr ⟨_, rfl, rfl⟩))
  all_goals exact .inl ⟨_, _, _, rfl, rfl⟩

/-- The word of a command's fields decodes to it. -/
theorem decodeCmd_cmdWord {op m : Nat} {f : Bool} {i : Instr} (h : cmdRow op m f = some i) :
    decodeCmd (cmdWord op m f) = .instr i := by
  obtain ⟨hlisted, -, hmode⟩ := cmdRow_eq_some_legal h
  have hop : op < 256 := listedOps_lt op hlisted
  have hm : m < 16 := Nat.lt_of_le_of_lt (legalModes_le op hlisted m hmode) (by decide)
  refine decodeCmd_row (cmdRsvd_cmdWord f hop hm) ?_
  rwa [cmdOp_cmdWord f hop hm, cmdM_cmdWord f hop hm, cmdF_cmdWord f hop hm]

/-- The FLAGS byte of a method's fields decodes to its row, the reserved bits 0 (R122). -/
theorem decodeFlags_flagsByte {m : Nat} {fl : Flags} {i : Instr} (hwf : fl.wellFormed = true)
    (h : methodRow m fl = some i) : decodeFlags (flagsByte m fl) = .instr i := by
  have hm : m < 16 := Nat.lt_of_le_of_lt (methodRow_eq_some_le h) (by decide)
  apply decodeFlags_row
  rwa [flagsMethod_flagsByte fl hm, flagsAlpha_flagsByte fl hm, ← Flags.wellFormed_iff.1 hwf]

/-! ## The statements -/

/-- Settles O1: each format's code decodes to the row it was built from. -/
theorem decodeEncodeAgree : Obligations.DecodeEncodeAgree := by
  intro i hwf
  obtain ⟨op, m, f, henc, hrow⟩ | ⟨m, fl, henc, hrow⟩ | ⟨b, henc, hdec⟩ | ⟨b, henc, hdec⟩ := encode_cases i <;>
    rw [henc]
  · exact decodeCmd_cmdWord hrow
  · exact decodeFlags_flagsByte (wellFormed_of_methodRow hrow ▸ hwf) hrow
  · exact hdec
  · exact hdec

/-- Settles O2: a word is made up of its fields, and the fields of a row's word name that row. -/
theorem commandWordsUnambiguous : Obligations.CommandWordsUnambiguous := by
  intro w i
  constructor
  · intro h
    obtain ⟨hr, hrow⟩ := decodeCmd_eq_instr_iff.1 h
    rw [encode_of_cmdRow hrow, cmdWord_fields hr]
  · intro h
    obtain ⟨op, m, f, henc, hrow⟩ | ⟨m, fl, henc, -⟩ | ⟨b, henc, -⟩ | ⟨b, henc, -⟩ := encode_cases i <;>
      cases henc.symm.trans h
    exact decodeCmd_cmdWord hrow

/-- Settles O3: each clause is one branch of `decodeCmd`, and the fields that pass every check name a row. -/
theorem commandDecodeOrder : Obligations.CommandDecodeOrder := by
  intro w
  dsimp only
  have hF1 : (cmdF w).toNat = 1 ↔ cmdF w = true := Bool.toNat_eq_one
  have hF0 : (cmdF w).toNat = 0 ↔ cmdF w = false := Bool.toNat_eq_zero
  rw [← cmdOp_eq, ← cmdM_eq, ← cmdF_toNat, ← cmdRsvd_eq, hF0, hF1]
  refine ⟨decodeCmd_reserved, fun _ => decodeCmd_unlisted, fun _ _ => decodeCmd_flag, decodeCmd_unsupported,
    fun _ _ _ hid hmode => decodeCmd_no_row hid ?_, fun hr hop hf hmode => ?_⟩
  · refine Option.eq_none_iff_forall_ne_some.2 fun i hrow => ?_
    obtain ⟨-, -, hlegal⟩ := cmdRow_eq_some_legal hrow
    exact hmode hlegal
  · obtain ⟨i, hrow⟩ := cmdRow_exists_iff.2 ⟨hop, hf, hmode⟩
    have hdec : decodeCmd w = .instr i := decodeCmd_row hr hrow
    exact ⟨i, hdec, (commandWordsUnambiguous w i).1 hdec⟩

/-- Settles O4: the row of the fields, or the rejection, for each of the three byte codes. -/
theorem byteCodesDecode : Obligations.ByteCodesDecode := by
  intro b
  rw [← flagsMethod_eq]
  refine ⟨fun h => ?_, decodeFlags_unsupported, fun h => ?_, fun h => ?_, fun h => ?_, fun h => ?_⟩
  · obtain ⟨i, hrow⟩ := methodRow_exists { alpha := flagsAlpha b } h
    exact ⟨i, decodeFlags_row hrow, by rw [encode_of_methodRow hrow, flagsByte_fields]⟩
  · exact (decodeRowTag_cases b).elim And.right fun hover => absurd h (Nat.not_le.2 hover.1)
  · exact (decodeRowTag_cases b).elim (fun htag => absurd htag.1 (Nat.not_le.2 h)) And.right
  · exact (decodeM4Tag_cases b).elim And.right fun hover => absurd h (Nat.not_le.2 hover.1)
  · exact (decodeM4Tag_cases b).elim (fun htag => absurd htag.1 (Nat.not_le.2 h)) And.right

/-- Settles O5: the words that stand for an instruction are its encoding (O2, O1), and the two others fail the check of
M and of OP. -/
theorem sampleWordsDecode : Obligations.SampleWordsDecode := by
  have hcmd {w : Word} {i : Instr} (h : encode i = .cmd w) : decodeCmd w = .instr i :=
    (commandWordsUnambiguous w i).2 h
  exact ⟨hcmd rfl, hcmd rfl, hcmd rfl, hcmd rfl, hcmd rfl, hcmd rfl, hcmd rfl,
    decodeCmd_unsupported (by decide) (by decide) (by decide) (by decide), decodeCmd_unlisted (by decide),
    decodeEncodeAgree (.method6AdaptiveFilterZ { alpha := true }) (by decide), decodeEncodeAgree .filterTag4Paeth rfl,
    decodeEncodeAgree .predTag1Avg rfl⟩

end Sys2Proof
end

section
/-! The engine's turn (40_commands R161, R162): it comes when the schedule names it or is empty, runs the instruction of
the latched word, and completes a word that is no instruction with the kind of its rejection. -/

namespace Sys2Proof.Machine

/-! ## The turn -/

/-- The engine's turn is next where the schedule names it, and where no input is left (log 3). -/
theorem step_eq_engineTurn {s : State} {rest : List Event}
    (h : s.inputs = [] ∧ rest = [] ∨ s.inputs = .engine :: rest) : step s = engineTurn { s with inputs := rest } := by
  obtain ⟨hnil, rfl⟩ | hev := h
  · have hs : s = { s with inputs := [] } := by rw [← hnil]
    rw [← hs]
    simp only [step, transition, hnil]
  · exact step_of_inputs hev

section
variable {s : State} {l : Latch} {tainted : Bool} (hp : s.phase = .busy l tainted)
include hp

theorem engineTurn_instr {i : Instr} (hd : decodeCmd l.word = .instr i) : engineTurn s = exec i s := by
  simp only [engineTurn, hp, Sys2Proof.decode, hd]

/-- A word that is no instruction is rejected before anything is read (R162). -/
theorem engineTurn_rejects (hd : ∀ i, decodeCmd l.word ≠ .instr i) :
    engineTurn s = .next (rejectCommand l tainted (rejectionKind (decodeCmd l.word)) s) := by
  simp only [engineTurn, hp, Sys2Proof.decode]
  split
  next i hi => exact absurd hi (hd i)
  next h => rw [h]
  next m h => rw [h]
  next b h => rw [h]

end

/-- Only ENCODE_M with M of 11 or more is unsupported (30_encoding R112, R115). -/
theorem decodeCmd_unsupported_fields {w : Word} {m : Nat} (h : decodeCmd w = .unsupported m) :
    cmdOp w = 0x02 ∧ 11 ≤ cmdM w := by
  unfold decodeCmd at h
  split_ifs at h with _ _ _ hid
  · exact hid
  · split at h <;> cases h

/-! ## The statements -/

/-- Settles O6: the turn is `exec` of the instruction that the latched word decodes to. -/
theorem stepRunsCommand : Obligations.StepRunsCommand := by
  intro s l tainted i rest hp hev hd _
  rw [step_eq_engineTurn hev]
  exact engineTurn_instr (s := { s with inputs := rest }) hp hd

/-- An untainted word that is no instruction completes as a rejection with its kind. -/
theorem step_rejected {s : State} {l : Latch} {rest : List Event} (hp : s.phase = .busy l false)
    (hev : s.inputs = [] ∧ rest = [] ∨ s.inputs = .engine :: rest) (hd : ∀ i, decodeCmd l.word ≠ .instr i) :
    ∃ t, step s = .next t ∧ Rejected (rejectionKind (decodeCmd l.word)) { s with inputs := rest } t := by
  refine ⟨_, ?_, failKeeping_rejected _ _⟩
  rw [step_eq_engineTurn hev]
  exact engineTurn_rejects (s := { s with inputs := rest }) hp hd

/-- Settles O21: the kind is that of the word's rejection, for an unsupported word with the fields of ENCODE_M. -/
theorem rejectedCommandWord : Obligations.RejectedCommandWord := by
  intro s l rest hp hev
  have hstep := step_rejected hp hev
  refine ⟨fun hd => ?_, fun m hd => ?_⟩ <;> rw [hd] at hstep
  · exact hstep fun _ => Decoded.noConfusion
  · obtain ⟨hop, hm⟩ := decodeCmd_unsupported_fields hd
    rw [cmdOp_eq] at hop
    rw [cmdM_eq] at hm
    exact ⟨hop, hm, hstep fun _ => Decoded.noConfusion⟩

end Sys2Proof.Machine
end

section
/-! The operand checks (40_commands R163): the checks of every command are the channel count, the windows, the geometry
and the source length, in this order, each for the commands that have it; the first that fails rejects the command. -/

namespace Sys2Proof.Machine

/-! ## The order of the checks -/

/-- `chk_ch` where the command reads IMG_CH (R163 item 1). -/
def channelCheck (i : Instr) (l : Latch) : Res Unit := if i ∈ channelReaders then chkCh l else .ok ()

/-- `chk_geom` where the command reads IMG_W and IMG_H (R163 item 3). -/
def geometryCheck (i : Instr) (P : Params) (l : Latch) : Res Unit := if i ∈ geometryReaders then chkGeom P l else .ok ()

/-- `chk_len` where the command has one (R163 item 4, R164, R165, R169, R171, R172, R173, R177). -/
def lengthCheck (i : Instr) (l : Latch) : Res Unit :=
  if i ∈ candidateRows then require (decide (l.imageLen ≤ l.srcLen.toNat)) .bufferError
  else if i ∈ imageReaders then require (l.srcLen.toNat == l.imageLen) .dimensionError
  else if i ∈ [Instr.rlePack, .palEnc] then require (l.srcLen.toNat % l.ch.toNat == 0) .dimensionError
  else if i = .predDecPaeth then require (!(l.w.toNat == 0 && decide (0 < l.srcLen.toNat))) .dimensionError
  else .ok ()

/-- The four checks of R163, in their order, are all the checks of every command. -/
theorem checksOf_eq {i : Instr} (hfmt : i.format = .cmd) (P : Params) (l : Latch) :
    checksOf i P l = (do channelCheck i l; chkWin P l; geometryCheck i P l; lengthCheck i l) := by
  cases i
  case encode | encodeM0 | encodeM1 | encodeM2 | encodeM3 | encodeM4 | encodeM5 | encodeM6 | encodeM7 | encodeM8
      | encodeM9 | encodeM10 => rfl
  case predEncDelta | predEncAvg | predEncPaeth | filtEncNone | filtEncSub | filtEncUp | filtEncAverage
      | filtEncPaeth | filtEncAdaptive => rfl
  case predDecDelta | predDecAvg | predDecPaeth | rlePack | palEnc => rfl
  case decode | decodeFast | decodeFastFb | hdrParse | zencDefault | zencFiltered | zencHuffman | zdec =>
    exact bind_pure_unit.symm
  case rleUnpack | palDec => exact congrArg (chkCh l >>= fun _ => ·) bind_pure_unit.symm
  case filtDec =>
    exact congrArg (fun r => chkCh l >>= fun _ => chkWin P l >>= fun _ => r) bind_pure_unit.symm
  all_goals cases hfmt

theorem chkCh_ok {l : Latch} (h : l.ch = 3 ∨ l.ch = 4) : chkCh l = .ok () := by
  obtain hc | hc := h <;> rw [chkCh, hc] <;> rfl

theorem chkCh_error {l : Latch} (h3 : l.ch ≠ 3) (h4 : l.ch ≠ 4) : chkCh l = .error .illegalCommand := by
  rw [chkCh, beq_false_of_ne h3, beq_false_of_ne h4]
  rfl

theorem chkGeom_ok_iff {P : Params} {l : Latch} :
    chkGeom P l = .ok () ↔ l.w.toNat ≤ 65535 ∧ l.h.toNat ≤ 65535 ∧ l.w.toNat * l.h.toNat ≤ P.maxPixels := by
  simp only [chkGeom, require_ok, Bool.and_eq_true, decide_eq_true_eq, and_assoc]

theorem channelCheck_ok {i : Instr} {l : Latch} (h : i ∈ channelReaders → l.ch = 3 ∨ l.ch = 4) :
    channelCheck i l = .ok () := by
  unfold channelCheck
  split
  next hi => exact chkCh_ok (h hi)
  next => rfl

theorem geometryCheck_ok {i : Instr} {P : Params} {l : Latch} (h : i ∈ geometryReaders → chkGeom P l = .ok ()) :
    geometryCheck i P l = .ok () := by
  unfold geometryCheck
  split
  next hi => exact h hi
  next => rfl

/-! ## The first check that fails -/

theorem channelReaders_cmd : ∀ i ∈ channelReaders, i.format = .cmd := by decide

theorem geometryReaders_subset : ∀ i ∈ geometryReaders, i ∈ channelReaders := by decide

section
variable {i : Instr} {s : State} {l : Latch} {k : ErrKind} (hfmt : i.format = .cmd) (hp : s.phase = .busy l false)
include hfmt hp

/-- An untainted command whose checks fail completes as a rejection with the kind they give (R163). -/
theorem exec_rejects (hk : checksOf i s.cfg l = .error k) : ∃ t, exec i s = .next t ∧ Rejected k s t := by
  obtain ⟨-, rule, -, hrun⟩ | ⟨hno, -⟩ := exec_form i
  · exact ⟨_, (hrun s).trans (runCommand_rejects hp hk), failKeeping_rejected k s⟩
  · exact absurd hfmt hno

theorem exec_rejects_channel (hk : channelCheck i l = .error k) : ∃ t, exec i s = .next t ∧ Rejected k s t := by
  apply exec_rejects hfmt hp
  rw [checksOf_eq hfmt, hk]
  rfl

theorem exec_rejects_windows (hc : channelCheck i l = .ok ()) (hk : chkWin s.cfg l = .error k) :
    ∃ t, exec i s = .next t ∧ Rejected k s t := by
  apply exec_rejects hfmt hp
  rw [checksOf_eq hfmt, hc, hk]
  rfl

theorem exec_rejects_geometry (hc : channelCheck i l = .ok ()) (hw : chkWin s.cfg l = .ok ())
    (hk : geometryCheck i s.cfg l = .error k) : ∃ t, exec i s = .next t ∧ Rejected k s t := by
  apply exec_rejects hfmt hp
  rw [checksOf_eq hfmt, hc, hw, hk]
  rfl

theorem exec_rejects_length (hc : channelCheck i l = .ok ()) (hw : chkWin s.cfg l = .ok ())
    (hg : geometryCheck i s.cfg l = .ok ()) (hk : lengthCheck i l = .error k) :
    ∃ t, exec i s = .next t ∧ Rejected k s t := by
  apply exec_rejects hfmt hp
  rw [checksOf_eq hfmt, hc, hw, hg, hk]
  rfl

end

/-- Settles O19: the checks before the first that fails pass, and that one gives its kind. -/
theorem operandCheckOrder : Obligations.OperandCheckOrder := by
  intro s l hp
  refine ⟨fun i hi h3 h4 => ?_, fun i hfmt hch hwin => ?_, fun i hi hch hwin hgeom => ?_⟩
  · apply exec_rejects_channel (channelReaders_cmd i hi) hp
    rw [channelCheck, if_pos hi, chkCh_error h3 h4]
  · exact exec_rejects_windows hfmt hp (channelCheck_ok hch) (require_ne_ok hwin)
  · have hread := geometryReaders_subset i hi
    apply exec_rejects_geometry (channelReaders_cmd i hread) hp (channelCheck_ok fun _ => hch) hwin
    rw [geometryCheck, if_pos hi]
    refine require_ne_ok fun hok => ?_
    obtain ⟨hw, hh, hmax⟩ := chkGeom_ok_iff.1 hok
    omega

/-! ## The source length -/

theorem candidateRows_cmd : ∀ i ∈ candidateRows, i.format = .cmd := by decide

theorem imageReaders_cmd : ∀ i ∈ imageReaders, i.format = .cmd ∧ i ∉ candidateRows := by decide

/-- The rows whose source must hold whole pixels (R169, R177) have no other check of the source length, and none of the
geometry. -/
theorem pixelReaders_cmd : ∀ i ∈ [Instr.rlePack, .palEnc],
    i.format = .cmd ∧ i ∉ geometryReaders ∧ i ∉ candidateRows ∧ i ∉ imageReaders := by decide

theorem require_false {c : Bool} {k : ErrKind} (h : ¬c = true) : require c k = .error k := if_neg h

/-- Settles O20: the checks before `chk_len` pass, and it gives the kind of the command's own length rule. -/
theorem sourceLengthChecks : Obligations.SourceLengthChecks := by
  intro s l hp hch hwin
  have hchannel (i : Instr) : channelCheck i l = .ok () := channelCheck_ok fun _ => hch
  refine ⟨fun i hi hlen => ?_, fun hw hh hmax => ?_⟩
  · obtain ⟨hfmt, hgeom, hcand, himage⟩ := pixelReaders_cmd i hi
    apply exec_rejects_length hfmt hp (hchannel i) hwin (geometryCheck_ok fun h => absurd h hgeom)
    rw [lengthCheck, if_neg hcand, if_neg himage, if_pos hi]
    exact require_false (mt beq_iff_eq.1 hlen)
  · have hgeom (i : Instr) : geometryCheck i s.cfg l = .ok () :=
      geometryCheck_ok fun _ => chkGeom_ok_iff.2 ⟨hw, hh, hmax⟩
    refine ⟨fun i hi hlen => ?_, fun i hi hlen => ?_, fun hzero hlen => ?_⟩
    · apply exec_rejects_length (candidateRows_cmd i hi) hp (hchannel i) hwin (hgeom i)
      rw [lengthCheck, if_pos (by exact hi)]
      exact require_false (mt of_decide_eq_true (Nat.not_le.2 hlen))
    · obtain ⟨hfmt, hcand⟩ := imageReaders_cmd i hi
      apply exec_rejects_length hfmt hp (hchannel i) hwin (hgeom i)
      rw [lengthCheck, if_neg hcand, if_pos hi]
      exact require_false (mt beq_iff_eq.1 hlen)
    · apply exec_rejects_length rfl hp (hchannel _) hwin (hgeom _)
      have hempty : (!(l.w.toNat == 0 && decide (0 < l.srcLen.toNat))) = false := by
        rw [hzero, decide_eq_true hlen]
        rfl
      exact require_false (Bool.eq_false_iff.1 hempty)

end Sys2Proof.Machine
end

section
/-! What a ready command completes with (40_commands R161, R179, 60_exceptions R455, R456): the outcome of each verdict,
and the outcomes of the stage commands (40_commands section 4), each of which is one stage under SCRATCH_BYTES. -/

namespace Sys2Proof.Machine

/-! ## The outcome of a verdict -/

/-- The values of a result fit the registers that report them (10_state R38, R49, R50, R51). -/
structure Result.FitsRegisters (r : Result) : Prop where
  method : r.flags.method < 16
  w : r.w < 2 ^ 32
  h : r.h < 2 ^ 32
  ch : r.ch < 2 ^ 32

theorem stageResult_fitsRegisters (D : Bytes) : (stageResult D).FitsRegisters :=
  ⟨Nat.succ_pos 15, Nat.two_pow_pos 32, Nat.two_pow_pos 32, Nat.two_pow_pos 32⟩

theorem Succeeds.of_fillCand {l : Latch} {r : Result} {cand : Option (Vector Word 11)} {s t : State}
    (h : Succeeds l r (fillCand cand s) t) : Succeeds l r s t := by
  rw [fillCand_eq] at h
  exact { h with untouched := { h.untouched with } }

theorem FailsAfterChecks.of_fillCand {l : Latch} {k : ErrKind} {cand : Option (Vector Word 11)} {s t : State}
    (h : FailsAfterChecks l k (fillCand cand s) t) : FailsAfterChecks l k s t := by
  rw [fillCand_eq] at h
  exact ⟨{ h.registers with untouched := { h.registers.untouched with } }, h.memory⟩

section
variable {s : State} {l : Latch} (hwf : s.mem.wf = true)
include hwf

theorem failDrawing_fails (l : Latch) (k : ErrKind) : FailsAfterChecks l k s (failDrawing l k s) :=
  ⟨failDrawing_errorRegisters l k s, (failDrawing_frame hwf l k).elsewhere⟩

/-- A successful completion writes each value of its result where R161 says. -/
theorem succeed_succeeds {r : Result} (hr : r.FitsRegisters) (hspace : l.dstAddr.toNat + l.dstCap.toNat ≤ addressSpace)
    (hfit : r.data.length ≤ l.dstCap.toNat) : Succeeds l r s (succeed l r s) where
  untouched := (succeed_frame hwf hfit).untouched
  draws := rfl
  phase := rfl
  work := rfl
  done := rfl
  err := rfl
  errcode := rfl
  drop := rfl
  resMethod := Nat.mod_eq_of_lt hr.method
  resAlpha := rfl
  padded := rfl
  fellback := rfl
  palExcl := rfl
  dstLen := Nat.mod_eq_of_lt (Nat.lt_of_le_of_lt hfit l.dstCap.isLt)
  resW := Nat.mod_eq_of_lt hr.w
  resH := Nat.mod_eq_of_lt hr.h
  resCh := Nat.mod_eq_of_lt hr.ch
  written := fun _ _ hi => Memory.get_write_inside hwf (by omega) hi
  elsewhere := fun _ hout => Memory.get_write_outside _ hwf hout

theorem complete_failure {rep : Report} {k : ErrKind} (hv : rep.verdict = .failure k true) :
    FailsAfterChecks l k s (complete l rep s) := by
  simp only [complete, hv]
  exact (failDrawing_fails (by rwa [fillCand_mem]) l k).of_fillCand

theorem complete_success {rep : Report} {r : Result} (hv : rep.verdict = .success r) (hr : r.FitsRegisters)
    (hspace : l.dstAddr.toNat + l.dstCap.toNat ≤ addressSpace) (hfit : r.data.length ≤ l.dstCap.toNat) :
    Succeeds l r s (complete l rep s) := by
  simp only [complete, hv]
  exact (succeed_succeeds (by rwa [fillCand_mem]) hr hspace hfit).of_fillCand

/-- A report that ends in `finish` completes as R179 says. -/
theorem complete_finish {rep : Report} {r : Result} (hv : rep.verdict = finish l r) (hr : r.FitsRegisters)
    (hspace : l.dstAddr.toNat + l.dstCap.toNat ≤ addressSpace) : FinishOutcome l r s (complete l rep s) := by
  obtain ⟨hfit, hfin⟩ | ⟨hover, hfin⟩ := finish_cases l r <;> rw [hfin] at hv
  · exact ⟨complete_success hwf hv hr hspace, fun hover => absurd hfit (Nat.not_le.2 hover)⟩
  · exact ⟨fun hfit => absurd hfit (Nat.not_le.2 hover), fun _ => complete_failure hwf hv⟩

end

/-! ## Ready commands -/

section
variable {i : Instr} {l : Latch} {s : State}

/-- A ready command completes by its rule's report. -/
theorem Ready.runCommand_eq {checks : Params → Latch → Res Unit} (h : Ready checks l s)
    (rule : Params → Latch → Bytes → Report) :
    runCommand checks rule s = .next (complete l (rule s.cfg l (source l s)) s) :=
  runCommand_ok h.running h.operands h.ordinary

/-- The destination window of a ready command lies in the address space (20_memory R85). -/
theorem Ready.dst_space (hfmt : i.format = .cmd) (h : Ready (checksOf i) l s) :
    l.dstAddr.toNat + l.dstCap.toNat ≤ addressSpace :=
  (chkWin_dst (checksOf_win hfmt h.operands)).1

/-! ## Stage commands -/

/-- A stage command: its outcome is what one stage gives for the source (40_commands section 4). -/
structure IsStageCommand (i : Instr) (stage : Params → Latch → Bytes → Res Bytes) : Prop where
  format : i.format = .cmd
  exec_eq : ∀ s, exec i s = runCommand (checksOf i) (fun P l S => stageReport l (stage P l S)) s

theorem IsStageCommand.outcome {stage : Params → Latch → Bytes → Res Bytes} (hi : IsStageCommand i stage)
    (h : Ready (checksOf i) l s) : StageOutcome i l (stage s.cfg l (source l s)) s := by
  refine ⟨_, (hi.exec_eq s).trans (h.runCommand_eq _), complete_candSize l _ s, ?_⟩
  cases hr : stage s.cfg l (source l s) with
  | ok D => exact complete_finish h.memory rfl (stageResult_fitsRegisters D) (h.dst_space hi.format)
  | error k => exact complete_failure h.memory rfl

/-- A stage run under SCRATCH_BYTES ends as the stage does, or under a finite bound in RESOURCE_LIMIT (R451). -/
theorem IsStageCommand.bounded {site : Site} {stage : Params → Latch → Bytes → Res Bytes}
    (hi : IsStageCommand i fun P l S => hold P site S (stage P l S)) (h : Ready (checksOf i) l s) :
    BoundedOutcome i l (stage s.cfg l (source l s)) s := by
  have hout := hi.outcome h
  obtain heq | ⟨hfinite, heq⟩ := hold_cases s.cfg site (source l s) (stage s.cfg l (source l s)) <;> rw [heq] at hout
  · exact .inl hout
  · exact .inr ⟨hfinite, hout⟩

end

/-- Settles O43: RLE and RLEINV as stages. -/
theorem rleCommands : Obligations.RleCommands := by
  intro s l
  exact ⟨IsStageCommand.bounded (i := .rlePack) (stage := fun _ l S => .ok (rle S l.ch.toNat)) ⟨rfl, fun _ => rfl⟩,
    IsStageCommand.bounded (i := .rleUnpack) (stage := fun _ l S => rleInv S l.ch.toNat) ⟨rfl, fun _ => rfl⟩⟩

theorem predEncRows_stage : ∀ p ∈ predEncRows, checksOf p.2 = checksImage ∧
    IsStageCommand p.2 fun P l S => hold P (.command .pred) S (.ok (pred p.1 S l.w.toNat l.ch.toNat)) := by
  simp only [predEncRows, List.forall_mem_cons]
  exact ⟨⟨rfl, rfl, fun _ => rfl⟩, ⟨rfl, rfl, fun _ => rfl⟩, ⟨rfl, rfl, fun _ => rfl⟩, List.forall_mem_nil _⟩

theorem predDecRows_stage : ∀ p ∈ predDecRows, checksOf p.2 = checksResiduals p.1 ∧
    IsStageCommand p.2 fun P l S => hold P (.command .predInv) S (.ok (predInv p.1 S l.w.toNat l.ch.toNat)) := by
  simp only [predDecRows, List.forall_mem_cons]
  exact ⟨⟨rfl, rfl, fun _ => rfl⟩, ⟨rfl, rfl, fun _ => rfl⟩, ⟨rfl, rfl, fun _ => rfl⟩, List.forall_mem_nil _⟩

/-- Settles O44: PRED and PREDINV as stages, row by row. -/
theorem predictorCommands : Obligations.PredictorCommands := by
  intro s l
  refine ⟨fun p hp h => ?_, fun p hp h => ?_⟩
  · obtain ⟨hchecks, hstage⟩ := predEncRows_stage p hp
    exact hstage.bounded (hchecks ▸ h)
  · obtain ⟨hchecks, hstage⟩ := predDecRows_stage p hp
    exact hstage.bounded (hchecks ▸ h)

theorem filtEncRows_stage : ∀ p ∈ filtEncRows, checksOf p.2 = checksImage ∧
    IsStageCommand p.2 fun P l S =>
      hold P (.command .filter) S (.ok (filterUniform p.1 S l.w.toNat l.h.toNat l.ch.toNat)) := by
  simp only [filtEncRows, List.forall_mem_cons]
  exact ⟨⟨rfl, rfl, fun _ => rfl⟩, ⟨rfl, rfl, fun _ => rfl⟩, ⟨rfl, rfl, fun _ => rfl⟩, ⟨rfl, rfl, fun _ => rfl⟩,
    ⟨rfl, rfl, fun _ => rfl⟩, List.forall_mem_nil _⟩

/-- Settles O45: FUNIF row by row, FADAPT with the platform's row score, and FILTDEC as stages. -/
theorem filterCommands : Obligations.FilterCommands := by
  intro s l
  refine ⟨fun p hp h => ?_, ?_, ?_⟩
  · obtain ⟨hchecks, hstage⟩ := filtEncRows_stage p hp
    exact hstage.bounded (hchecks ▸ h)
  · exact IsStageCommand.bounded (i := .filtEncAdaptive)
      (stage := fun P l S => .ok (filterAdaptive P.score S l.w.toNat l.h.toNat l.ch.toNat)) ⟨rfl, fun _ => rfl⟩
  · exact IsStageCommand.bounded (i := .filtDec)
      (stage := fun _ l S => filterDecode S (l.w.toNat * l.ch.toNat) l.ch.toNat) ⟨rfl, fun _ => rfl⟩

theorem zencRows_stage : ∀ p ∈ zencRows, checksOf p.2 = checksWindows ∧
    IsStageCommand p.2 fun P _ S => hold P (.command (.entropy p.1)) S (.ok (P.entropyEnc p.1 S)) := by
  simp only [zencRows, List.forall_mem_cons]
  exact ⟨⟨rfl, rfl, fun _ => rfl⟩, ⟨rfl, rfl, fun _ => rfl⟩, ⟨rfl, rfl, fun _ => rfl⟩, List.forall_mem_nil _⟩

/-- Settles O46: ENTROPY_ENC row by row under the bound, and ZDECODE, which has its own. -/
theorem entropyCommands : Obligations.EntropyCommands := by
  intro s l h
  refine ⟨fun p hp => ?_, ?_⟩
  · obtain ⟨hchecks, hstage⟩ := zencRows_stage p hp
    exact hstage.bounded (stage := fun P _ S => .ok (P.entropyEnc p.1 S)) (hchecks ▸ h)
  · exact IsStageCommand.outcome (i := .zdec) (stage := fun P _ S => zdecode P.scratch S) ⟨rfl, fun _ => rfl⟩ h

/-- PAL_ENC as a stage: PALETTE_OVERFLOW comes first, whatever SCRATCH_BYTES is (41_transform_primitives R211). -/
theorem palEnc_stage : IsStageCommand .palEnc fun P l S =>
    pal S l.ch.toNat >>= fun t => hold P (.command .pal) S (.ok t) :=
  ⟨rfl, fun _ => rfl⟩

/-- Settles O47: PAL, whose own failure is not held back by the bound, and PALINV as stages. -/
theorem paletteCommands : Obligations.PaletteCommands := by
  intro s l
  refine ⟨fun h => ?_, ?_⟩
  · have hout := palEnc_stage.outcome h
    cases hpal : pal (source l s) l.ch.toNat with
    | error k =>
      rw [hpal] at hout
      exact .inl hout
    | ok t =>
      rw [hpal] at hout
      change StageOutcome .palEnc l (hold s.cfg (.command .pal) (source l s) (.ok t)) s at hout
      obtain heq | ⟨hfinite, heq⟩ := hold_cases s.cfg (.command .pal) (source l s) (.ok t) <;> rw [heq] at hout
      · exact .inl hout
      · exact .inr ⟨hfinite, hout⟩
  · exact IsStageCommand.bounded (i := .palDec) (stage := fun _ l S => palInv S l.ch.toNat) ⟨rfl, fun _ => rfl⟩

end Sys2Proof.Machine
end

section
/-! The commands that read a container (40_commands R166 to R168, 46_decoder R410 to R421): what a parsed header
bounds, the lengths FIT and EXPAND give, the decoder after its checks, and its two fast forms. -/

namespace Sys2Proof.Machine

/-! ## Lengths -/

theorem natAt_lt (X : Bytes) (i : Nat) : natAt X i < 256 := (X.getD i 0).isLt

/-- The fields of a parsed header fit its bytes, and its method id has a pipeline (R410, 30_encoding R120). -/
theorem parseHeader_bounds {S : Bytes} {hdr : Hdr} (h : parseHeader S = .ok hdr) :
    hdr.w < 2 ^ 16 ∧ hdr.h < 2 ^ 16 ∧ hdr.method ≤ 10 := by
  simp only [parseHeader] at h
  split_ifs at h with _ _ hm
  cases h
  have h2 := natAt_lt S 2
  have h3 := natAt_lt S 3
  have h4 := natAt_lt S 4
  have h5 := natAt_lt S 5
  refine ⟨?_, ?_, Nat.not_lt.1 hm⟩ <;> dsimp only <;> omega

theorem Hdr.ch_cases (hdr : Hdr) : hdr.ch = 3 ∨ hdr.ch = 4 := by
  unfold Hdr.ch
  split
  · exact .inr rfl
  · exact .inl rfl

theorem outChannels_cases (outRgba alpha : Bool) : outChannels outRgba alpha = 3 ∨ outChannels outRgba alpha = 4 := by
  unfold outChannels
  split
  · exact .inr rfl
  · exact .inl rfl

theorem length_repeatBytes (p : Bytes) (k : Nat) : (repeatBytes p k).length = k * p.length := by
  induction k with
  | zero => rw [repeatBytes, Nat.zero_mul, List.length_nil]
  | succ k ih => rw [repeatBytes, List.length_append, ih, Nat.succ_mul, Nat.add_comm]

theorem length_fillPixel {C : Nat} (hC : C = 3 ∨ C = 4) : (fillPixel C).length = C := by
  obtain rfl | rfl := hC <;> rfl

/-- FIT gives exactly N pixels (R415). -/
theorem length_fit (X : Bytes) (N : Nat) {C : Nat} (hC : C = 3 ∨ C = 4) : (fit X N C).1.length = N * C := by
  simp only [fit]
  split
  next hlong => rw [List.length_take, Nat.min_eq_left hlong]
  next hshort =>
    have hk : X.length / C * C ≤ X.length := Nat.div_mul_le_self _ _
    have hN : X.length / C ≤ N := Nat.div_le_of_le_mul (by rw [Nat.mul_comm]; omega)
    rw [List.length_append, List.length_take, Nat.min_eq_left hk, length_repeatBytes, length_fillPixel hC,
      ← Nat.add_mul, Nat.add_sub_cancel' hN]

theorem length_slice {s : Bytes} {a n : Nat} (h : a + n ≤ s.length) : (slice s a n).length = n := by
  rw [slice, List.length_take, List.length_drop]
  omega

/-- The whole pixels of N times C bytes are N slices (00_scope R22). -/
theorem px_of_length {R : Bytes} {N C : Nat} (hC : 0 < C) (hR : R.length = N * C) :
    px R C = (List.range N).map fun j => slice R (j * C) C := by
  rw [px, hR, Nat.mul_div_cancel _ hC]

theorem length_of_mem_px {R p : Bytes} {C : Nat} (h : p ∈ px R C) : p.length = C := by
  simp only [px, List.mem_map, List.mem_range] at h
  obtain ⟨j, hj, rfl⟩ := h
  have hjC : (j + 1) * C ≤ R.length := (Nat.mul_le_mul_right C hj).trans (Nat.div_mul_le_self _ _)
  rw [Nat.succ_mul] at hjC
  exact length_slice hjC

/-- EXPAND gives each of N pixels OC bytes (R416). -/
theorem length_expand {Y : Bytes} {N C OC : Nat} (hY : Y.length = N * C) (hOC : OC = C ∨ (C = 3 ∧ OC = 4)) :
    (expand Y C OC).length = N * OC := by
  unfold expand
  split
  next heq => rw [hY, heq]
  next hne =>
    obtain ⟨rfl, rfl⟩ := hOC.resolve_left hne
    have hpixel : ∀ p ∈ px Y 3, (p ++ [255]).length = 4 := fun p hp => by
      rw [List.length_append, length_of_mem_px hp]
      rfl
    rw [List.length_flatMap, List.map_congr_left hpixel, List.map_const', List.sum_replicate_nat,
      px_of_length (by decide) hY, List.length_map, List.length_range]

/-- The output channels of a decode are the container's, or 4 over 3 (R416). -/
theorem outChannels_eq_or (outRgba : Bool) (hdr : Hdr) :
    outChannels outRgba hdr.alpha = hdr.ch ∨ (hdr.ch = 3 ∧ outChannels outRgba hdr.alpha = 4) := by
  unfold outChannels Hdr.ch
  cases hdr.alpha <;> cases outRgba <;> decide

/-! ## The decoder -/

/-- The pixels a decode makes of a pipeline's output (R413 to R416). -/
def decodedPixels (outRgba : Bool) (hdr : Hdr) (X : Bytes) : DecodedImage :=
  { data := expand (fit X (hdr.w * hdr.h) hdr.ch).1 hdr.ch (outChannels outRgba hdr.alpha)
    hdr := hdr
    padded := (fit X (hdr.w * hdr.h) hdr.ch).2 }

theorem length_decodedPixels (outRgba : Bool) (hdr : Hdr) (X : Bytes) :
    (decodedPixels outRgba hdr X).data.length = hdr.w * hdr.h * outChannels outRgba hdr.alpha :=
  length_expand (length_fit X _ hdr.ch_cases) (outChannels_eq_or outRgba hdr)

section
variable {P : Params} {S : Bytes} {outRgba : Bool} {dstCap : Nat} {covers : Nat → Bool} {hdr : Hdr}

theorem decodeContainer_bad_header {k : ErrKind} (h : parseHeader S = .error k) :
    decodeContainer P S outRgba dstCap covers = .error { kind := k, mayWrite := true } := by
  rw [decodeContainer, h]
  rfl

/-- The decoder on a parsed header: its checks in the order of R417, then the pipeline. -/
theorem decodeContainer_parsed (h : parseHeader S = .ok hdr) :
    decodeContainer P S outRgba dstCap covers =
      if covers hdr.method = false then .error { kind := .unsupportedMethod, mayWrite := true }
      else if P.maxPixels < hdr.w * hdr.h then .error { kind := .dimensionError, mayWrite := false }
      else if dstCap < hdr.w * hdr.h * outChannels outRgba hdr.alpha then
        .error { kind := .bufferError, mayWrite := false }
      else if hdr.w * hdr.h = 0 then .ok { data := [], hdr := hdr, padded := false }
      else (stageFailure (decMethod P hdr.method (S.drop 7) hdr.w hdr.ch)).map (decodedPixels outRgba hdr) := by
  simp only [decodeContainer, h, stageFailure, bind, Except.bind]
  cases decMethod P hdr.method (S.drop 7) hdr.w hdr.ch <;> rfl

theorem decodeContainer_uncovered (h : parseHeader S = .ok hdr) (hc : covers hdr.method = false) :
    decodeContainer P S outRgba dstCap covers = .error { kind := .unsupportedMethod, mayWrite := true } := by
  rw [decodeContainer_parsed h, if_pos hc]

/-- Two decoders that both cover the header's method, or both do not, decode alike (R419). -/
theorem decodeContainer_congr {covers' : Nat → Bool} (h : parseHeader S = .ok hdr)
    (hc : covers hdr.method = covers' hdr.method) :
    decodeContainer P S outRgba dstCap covers = decodeContainer P S outRgba dstCap covers' := by
  rw [decodeContainer_parsed h, decodeContainer_parsed h, hc]

/-- The full decoder on a header that passes its checks (R413). -/
theorem decodeFull_of_checks (h : parseHeader S = .ok hdr) (hmax : hdr.w * hdr.h ≤ P.maxPixels)
    (hcap : hdr.w * hdr.h * outChannels outRgba hdr.alpha ≤ dstCap) :
    decodeFull P S outRgba dstCap =
      if hdr.w * hdr.h = 0 then .ok { data := [], hdr := hdr, padded := false }
      else (stageFailure (decMethod P hdr.method (S.drop 7) hdr.w hdr.ch)).map (decodedPixels outRgba hdr) := by
  have hcovers : ¬coversAll hdr.method = false := Bool.noConfusion
  rw [decodeFull, decodeContainer_parsed h, if_neg hcovers, if_neg (Nat.not_lt.2 hmax), if_neg (Nat.not_lt.2 hcap)]

end

/-- The header of a decoded image is the container's. -/
theorem decodeVerdict_ok (l : Latch) (fellback : Bool) (d : DecodedImage) :
    decodeVerdict l fellback (.ok d) = finish l
      { data := d.data
        w := d.hdr.w
        h := d.hdr.h
        ch := outChannels l.outRgba d.hdr.alpha
        flags := { method := d.hdr.method, alpha := d.hdr.alpha, padded := d.padded, fellback := fellback,
                   palExcl := false } } := rfl

/-- The registers hold what a parsed header says. -/
theorem fitsRegisters_of_header {S : Bytes} {hdr : Hdr} (h : parseHeader S = .ok hdr) {r : Result}
    (hm : r.flags.method = hdr.method) (hw : r.w = hdr.w) (hh : r.h = hdr.h) (hch : r.ch = 3 ∨ r.ch = 4) :
    r.FitsRegisters := by
  obtain ⟨hw', hh', hm'⟩ := parseHeader_bounds h
  constructor <;> omega

/-- A report that ends in `finish` succeeds where its bytes fit the destination window (R179). -/
theorem complete_finish_fits {s : State} {l : Latch} {rep : Report} {r : Result} (hwf : s.mem.wf = true)
    (hv : rep.verdict = finish l r) (hr : r.FitsRegisters) (hspace : l.dstAddr.toNat + l.dstCap.toNat ≤ addressSpace)
    (hfit : r.data.length ≤ l.dstCap.toNat) : Succeeds l r s (complete l rep s) :=
  (complete_finish hwf hv hr hspace).1 hfit

/-! ## The statements -/

/-- Settles O42: `finish` always has room for no bytes. -/
theorem headerCommand : Obligations.HeaderCommand := by
  intro s l h
  refine ⟨_, h.runCommand_eq ruleHdrParse, complete_candSize l _ s, ?_⟩
  cases hparse : parseHeader (source l s) with
  | error k => exact complete_failure h.memory (by simp only [ruleHdrParse, hparse])
  | ok hdr =>
    exact complete_finish_fits h.memory (by simp only [ruleHdrParse, hparse]; rfl)
      (fitsRegisters_of_header hparse rfl rfl rfl hdr.ch_cases) (h.dst_space (i := .hdrParse) rfl) (Nat.zero_le _)

/-- Settles O37: the decoder past its checks, whose pixels fit the capacity that was checked. -/
theorem ImageCommands.decode : Obligations.Decode := by
  intro s l hdr h hparse C OC result hmax hcap
  have hrule := decodeFull_of_checks (P := s.cfg) (outRgba := l.outRgba) hparse hmax hcap
  have hregs (D : Bytes) (padded : Bool) : (result D padded).FitsRegisters :=
    fitsRegisters_of_header hparse rfl rfl rfl (outChannels_cases _ _)
  have hspace := h.dst_space (i := .decode) rfl
  refine ⟨_, h.runCommand_eq ruleDecode, complete_candSize l _ s, fun hempty => ?_, fun hpixels => ?_⟩
  · rw [if_pos hempty] at hrule
    exact complete_finish_fits h.memory (by simp only [ruleDecode, hrule]; rfl) (hregs _ _) hspace (Nat.zero_le _)
  · rw [if_neg hpixels] at hrule
    change decodeFull _ _ _ _ = (stageFailure (decMethod s.cfg hdr.method ((source l s).drop 7) hdr.w C)).map _ at hrule
    cases hdec : decMethod s.cfg hdr.method ((source l s).drop 7) hdr.w C with
    | error k =>
      rw [hdec] at hrule
      exact complete_failure h.memory (by simp only [ruleDecode, hrule]; rfl)
    | ok X =>
      rw [hdec] at hrule
      refine complete_finish_fits h.memory (by simp only [ruleDecode, hrule]; rfl) (hregs _ _) hspace ?_
      exact (length_decodedPixels l.outRgba hdr X).trans_le hcap

/-- Whether the fast path fell back shows in FELLBACK alone, and only if the decode succeeds (R421). -/
theorem complete_fellback (l : Latch) (x : Except DecodeFailure DecodedImage) (s : State) :
    let t := complete l { cand := none, verdict := decodeVerdict l false x } s
    complete l { cand := none, verdict := decodeVerdict l true x } s =
      { t with status := { t.status with fellback := !t.status.err } } := by
  obtain ⟨k, w⟩ | d := x
  · cases w <;> rfl
  · simp only [decodeVerdict_ok]
    by_cases hover : l.dstCap.toNat < d.data.length
    · simp only [finish, if_pos hover]
      rfl
    · simp only [finish, if_neg hover]
      rfl

/-- Where the fast path decodes as the full decoder, all three decodes report alike: a failure is followed by the same
failure (R421). -/
theorem ruleDecodeFast_eq {P : Params} {l : Latch} {S : Bytes}
    (h : decodeFastPath P S l.outRgba l.dstCap.toNat = decodeFull P S l.outRgba l.dstCap.toNat) :
    ruleDecodeFast P l S = ruleDecode P l S ∧ ruleDecodeFastFb P l S = ruleDecode P l S := by
  simp only [ruleDecodeFast, ruleDecodeFastFb, ruleDecode, h, true_and]
  cases decodeFull P S l.outRgba l.dstCap.toNat <;> rfl

/-- Settles O41: on FAST_SUBSET and on a bad header the two decoders agree; outside it the fast path fails. -/
theorem fastDecode : Obligations.FastDecode := by
  intro s l h
  have hdecode := h.runCommand_eq ruleDecode
  have hfast := h.runCommand_eq ruleDecodeFast
  have hfb := h.runCommand_eq ruleDecodeFastFb
  refine ⟨fun hin => ?_, fun hdr hparse hout => ?_⟩
  · have hagree : decodeFastPath s.cfg (source l s) l.outRgba l.dstCap.toNat
        = decodeFull s.cfg (source l s) l.outRgba l.dstCap.toNat := by
      cases hparse : parseHeader (source l s) with
      | error k => exact (decodeContainer_bad_header hparse).trans (decodeContainer_bad_header hparse).symm
      | ok hdr => exact decodeContainer_congr hparse (hin hdr hparse)
    obtain ⟨heq, heqFb⟩ := ruleDecodeFast_eq hagree
    rw [heq] at hfast
    rw [heqFb] at hfb
    exact ⟨_, hdecode, hfast, hfb⟩
  · have hfails : decodeFastPath s.cfg (source l s) l.outRgba l.dstCap.toNat
        = .error { kind := .unsupportedMethod, mayWrite := true } := decodeContainer_uncovered hparse hout
    refine ⟨⟨_, hfast, complete_candSize l _ s, complete_failure h.memory ?_⟩, _, hdecode, ?_⟩
    · simp only [ruleDecodeFast, hfails, decodeVerdict]
    · simp only [ruleDecodeFastFb, hfails] at hfb
      rw [complete_fellback] at hfb
      exact hfb

end Sys2Proof.Machine
end

section
/-! ENCODE and ENCODE_M (40_commands R164, R165, 45_encoder_selector R380 to R388): the raw bytes that are encoded, the
least candidate that the selector takes, and what each command completes with. -/

namespace Sys2Proof.Machine

/-! ## The least candidate -/

theorem argmin_eq_none_iff {α : Type} {size : α → Nat} {as : List α} : argmin size as = none ↔ as = [] := by
  cases as with
  | nil => exact iff_of_true rfl rfl
  | cons c cs =>
    refine iff_of_false ?_ (List.cons_ne_nil _ _)
    rw [argmin]
    split
    · exact Option.some_ne_none _
    · split <;> exact Option.some_ne_none _

/-- `argmin` splits its list at the choice: everything before it is larger, nothing after it is smaller (R25). -/
theorem argmin_spec {α : Type} {size : α → Nat} {as : List α} {a : α} (h : argmin size as = some a) :
    ∃ pre post, as = pre ++ a :: post ∧ (∀ b ∈ pre, size a < size b) ∧ ∀ b ∈ post, size a ≤ size b := by
  induction as generalizing a with
  | nil => cases h
  | cons c cs ih =>
    rw [argmin] at h
    cases hcs : argmin size cs with
    | none =>
      simp only [hcs, Option.some.injEq] at h
      obtain rfl := argmin_eq_none_iff.1 hcs
      exact ⟨[], [], congrArg ([·]) h, List.forall_mem_nil _, List.forall_mem_nil _⟩
    | some b =>
      obtain ⟨pre, post, rfl, hpre, hpost⟩ := ih hcs
      simp only [hcs] at h
      split at h
      next hlt =>
        cases h
        exact ⟨c :: pre, post, rfl, List.forall_mem_cons.2 ⟨hlt, hpre⟩, hpost⟩
      next hle =>
        cases h
        refine ⟨[], _, rfl, List.forall_mem_nil _, fun d hd => (Nat.not_lt.1 hle).trans ?_⟩
        obtain hd | hd := List.mem_append.1 hd
        · exact (hpre d hd).le
        · obtain rfl | hd := List.mem_cons.1 hd
          · exact Nat.le_refl _
          · exact hpost d hd

theorem mem_successes {α β : Type} {cs : List (α × Res β)} {k : α} {v : β} :
    (k, v) ∈ successes cs ↔ (k, .ok v) ∈ cs := by
  induction cs with
  | nil => exact iff_of_false List.not_mem_nil List.not_mem_nil
  | cons c cs ih =>
    obtain ⟨j, e | x⟩ := c <;> simp [successes, ih]

/-- The successful candidates keep the order of the trials. -/
theorem successes_keys_sublist {α β : Type} (cs : List (α × Res β)) :
    ((successes cs).map Prod.fst).Sublist (cs.map Prod.fst) := by
  induction cs with
  | nil => exact List.Sublist.refl _
  | cons c cs ih =>
    obtain ⟨j, e | x⟩ := c
    · exact ih.cons j
    · exact ih.cons_cons j

/-- Among candidates in increasing order of their ids, the choice is the least, and of equal ones the first (R385). -/
theorem argmin_successes {β : Type} {size : Nat × β → Nat} {cs : List (Nat × Res β)} {m m' : Nat} {v v' : β}
    (hsorted : (cs.map Prod.fst).Pairwise (· < ·)) (h : argmin size (successes cs) = some (m, v))
    (hmem : (m', .ok v') ∈ cs) : size (m, v) < size (m', v') ∨ (size (m, v) = size (m', v') ∧ m ≤ m') := by
  have hkeys := hsorted.sublist (successes_keys_sublist cs)
  obtain ⟨pre, post, hsplit, hpre, hpost⟩ := argmin_spec h
  rw [hsplit, List.map_append, List.map_cons] at hkeys
  have hafter := (List.pairwise_cons.1 (List.pairwise_append.1 hkeys).2.1).1
  obtain hin | hin := List.mem_append.1 (hsplit ▸ mem_successes.2 hmem)
  · exact .inl (hpre _ hin)
  · obtain heq | hin := List.mem_cons.1 hin
    · cases heq
      exact .inr ⟨rfl, Nat.le_refl _⟩
    · have hlt : m < m' := hafter m' (List.mem_map_of_mem hin)
      have hle := hpost _ hin
      omega

/-! ## The selector -/

theorem encMethod_le {P : Params} {m W H C : Nat} {R Y : Bytes} (h : encMethod P m R W H C = .ok Y) : m ≤ 10 := by
  by_contra hm
  unfold encMethod at h
  split at h
  case h_12 => cases h
  all_goals omega

theorem mem_candidates {P : Params} {R : Bytes} {W H C m : Nat} {r : Res Bytes} :
    (m, r) ∈ candidates P R W H C ↔ m ≤ 10 ∧ encMethod P m R W H C = r := by
  have hids : methodIds = List.range 11 := rfl
  simp only [candidates, hids, List.mem_map, List.mem_range, Prod.mk.injEq]
  constructor
  · rintro ⟨j, hj, rfl, rfl⟩
    exact ⟨Nat.le_of_lt_succ hj, rfl⟩
  · rintro ⟨hm, rfl⟩
    exact ⟨m, Nat.lt_succ_of_le hm, rfl, rfl⟩

theorem methodIds_sorted : methodIds.Pairwise (· < ·) := by decide

/-- The selector chooses a payload no longer than any other, the lowest id on equal lengths; method 0 always succeeds,
so it does choose (R385, R388). -/
theorem select_choice (P : Params) (R : Bytes) (W H C : Nat) :
    ∃ m Y, (select P R W H C).choice = some (m, Y) ∧ m ≤ 10 ∧ encMethod P m R W H C = .ok Y ∧
      ∀ m' Y', encMethod P m' R W H C = .ok Y' → Y.length < Y'.length ∨ (Y.length = Y'.length ∧ m ≤ m') := by
  have hsorted : ((candidates P R W H C).map Prod.fst).Pairwise (· < ·) := methodIds_sorted
  cases hc : (select P R W H C).choice with
  | none =>
    have hzero : (0, .ok R) ∈ candidates P R W H C := mem_candidates.2 ⟨Nat.zero_le _, rfl⟩
    have hmem := mem_successes.2 hzero
    rw [argmin_eq_none_iff.1 hc] at hmem
    cases hmem
  | some c =>
    obtain ⟨m, Y⟩ := c
    obtain ⟨pre, post, hsplit, -⟩ := argmin_spec hc
    have hmem : (m, Y) ∈ successes (candidates P R W H C) := by
      rw [hsplit]
      exact List.mem_append_right _ List.mem_cons_self
    obtain ⟨hm, hY⟩ := mem_candidates.1 (mem_successes.1 hmem)
    exact ⟨m, Y, rfl, hm, hY, fun m' Y' h' =>
      argmin_successes hsorted hc (mem_candidates.2 ⟨encMethod_le h', h'⟩)⟩

/-- A stage that cannot fail of itself fails only with RESOURCE_LIMIT (R353). -/
theorem hold_ok_error {P : Params} {site : Site} {input x : Bytes} {k : ErrKind}
    (h : hold P site input (.ok x) = .error k) : k = .resourceLimit := by
  obtain heq | ⟨-, heq⟩ := hold_cases P site input (.ok x) <;> cases heq.symm.trans h
  rfl

/-- A sequence of stages fails as its first stage does, or as the rest does (00_scope R24). -/
theorem bind_eq_error {α β : Type} {r : Res α} {f : α → Res β} {k : ErrKind} (h : (r >>= f) = .error k) :
    r = .error k ∨ ∃ x, r = .ok x ∧ f x = .error k := by
  cases r with
  | error e => cases h; exact .inl rfl
  | ok x => exact .inr ⟨x, rfl, h⟩

/-- Method 5 overflows exactly when there are more than 256 distinct pixels (41_transform_primitives R211, R384). -/
theorem enc5_overflow_iff {P : Params} {R : Bytes} {C : Nat} :
    enc5 P R C = .error .paletteOverflow ↔ 256 < distinct R C := by
  by_cases hd : 256 < distinct R C
  · have hpal : pal R C = .error .paletteOverflow := if_pos hd
    simp only [enc5, hpal, hd, iff_true]
    rfl
  · obtain ⟨t, hpal⟩ : ∃ t, pal R C = .ok t := ⟨_, if_neg hd⟩
    refine iff_of_false (fun h => ?_) hd
    rw [enc5, hpal] at h
    obtain hstage | ⟨x, -, hz⟩ := bind_eq_error (r := hold P (.pipeline .pal) R (.ok t)) h
    · cases hold_ok_error hstage
    · cases hold_ok_error hz

theorem select_palExcl (P : Params) (R : Bytes) (W H C : Nat) :
    (select P R W H C).palExcl = decide (256 < distinct R C) := by
  rw [Bool.eq_iff_iff, decide_eq_true_eq, ← enc5_overflow_iff (P := P)]
  simp [select, candidates, methodIds, encMethod]

/-! ## The raw bytes -/

/-- The alpha byte of a whole pixel (R380). -/
theorem alpha_of_pixel {B : Bytes} {N j : Nat} (hB : B.length = N * 4) (hj : j < N) :
    (slice B (j * 4) 4).getD 3 255 = B.getD (4 * j + 3) 0 := by
  have hin : 4 * j + 3 < B.length := by omega
  rw [List.getD_eq_getElem?_getD, List.getD_eq_getElem?_getD, slice, List.getElem?_take_of_lt (by decide),
    List.getElem?_drop, Nat.mul_comm j 4, List.getElem?_eq_getElem hin]
  rfl

theorem natAt_eq_255_iff {B : Bytes} {i : Nat} : natAt B i = 255 ↔ B.getD i 0 = 255 :=
  BitVec.toNat_inj (y := (255 : Byte))

/-- A 4-channel buffer has alpha exactly if the alpha byte of some pixel is not 255 (R380). -/
theorem hasAlpha_iff {B : Bytes} {N : Nat} (hB : B.length = N * 4) :
    hasAlpha B = true ↔ ∃ j < N, natAt B (4 * j + 3) ≠ 255 := by
  rw [hasAlpha, px_of_length (by decide) hB, List.any_map, List.any_eq_true]
  refine exists_congr fun j => ?_
  rw [List.mem_range]
  refine and_congr_right fun hj => ?_
  rw [Function.comp_apply, alpha_of_pixel hB hj, bne_iff_ne, Ne, Ne, natAt_eq_255_iff]

/-- Stripping keeps the first three bytes of each pixel (R380). -/
theorem stripAlpha_eq {B : Bytes} {N : Nat} (hB : B.length = N * 4) :
    stripAlpha B = (List.range N).flatMap fun j => slice B (4 * j) 3 := by
  rw [stripAlpha, px_of_length (by decide) hB, List.flatMap_map]
  congr 1
  funext j
  rw [slice, slice, List.take_take, Nat.mul_comm j 4]
  rfl

theorem raw_alpha_iff {B : Bytes} {c : Nat} : (raw B c).alpha = true ↔ c = 4 ∧ hasAlpha B = true := by
  unfold raw
  split_ifs with h
  · exact iff_of_true rfl h
  · exact iff_of_false id h
  · exact iff_of_false id h

/-- An image with alpha, and one of three channels, is encoded as it is (R380). -/
theorem raw_unchanged {B : Bytes} {c : Nat} (h : (raw B c).alpha = true ∨ c = 3) :
    (raw B c).bytes = B ∧ (raw B c).ch = c := by
  obtain h | rfl := h
  · have h4 := raw_alpha_iff.1 h
    rw [raw, if_pos h4]
    exact ⟨rfl, h4.1.symm⟩
  · exact ⟨rfl, rfl⟩

/-- An opaque image of four channels is encoded without its alpha bytes (R380). -/
theorem raw_opaque {B : Bytes} {c : Nat} (hc : c = 4) (h : (raw B c).alpha = false) :
    (raw B c).ch = 3 ∧ (raw B c).bytes = stripAlpha B := by
  subst hc
  have hno : ¬(4 = 4 ∧ hasAlpha B = true) := fun ha => by
    rw [raw_alpha_iff.2 ha] at h
    cases h
  rw [raw, if_neg hno, if_pos rfl]
  exact ⟨rfl, rfl⟩

theorem raw_ch_cases (B : Bytes) (c : Nat) : (raw B c).ch = 3 ∨ (raw B c).ch = 4 := by
  unfold raw
  split_ifs
  · exact .inr rfl
  · exact .inl rfl
  · exact .inl rfl

/-! ## Rules -/

section
variable {P : Params} {l : Latch} {SRC : Bytes} {m : Nat}

theorem ruleEncode_verdict {Y : Bytes}
    (h : (select P (latchedRaw l SRC).bytes l.w.toNat l.h.toNat (latchedRaw l SRC).ch).choice = some (m, Y)) :
    (ruleEncode P l SRC).verdict = finish l
      { data := container l.w.toNat l.h.toNat m (latchedRaw l SRC).alpha Y
        w := l.w.toNat
        h := l.h.toNat
        ch := (latchedRaw l SRC).ch
        flags := { method := m, alpha := (latchedRaw l SRC).alpha, padded := false, fellback := false,
                   palExcl := decide (256 < distinct (latchedRaw l SRC).bytes (latchedRaw l SRC).ch) } } := by
  simp only [ruleEncode, h, select_palExcl]
  rfl

theorem ruleEncodeM_verdict_ok {Y : Bytes}
    (h : encMethod P m (latchedRaw l SRC).bytes l.w.toNat l.h.toNat (latchedRaw l SRC).ch = .ok Y) :
    (ruleEncodeM m P l SRC).verdict = finish l
      { data := container l.w.toNat l.h.toNat m (latchedRaw l SRC).alpha Y
        w := l.w.toNat
        h := l.h.toNat
        ch := (latchedRaw l SRC).ch
        flags := { method := m, alpha := (latchedRaw l SRC).alpha, padded := false, fellback := false,
                   palExcl := false } } := by
  simp only [ruleEncodeM, h]
  rfl

theorem ruleEncodeM_verdict_error {k : ErrKind}
    (h : encMethod P m (latchedRaw l SRC).bytes l.w.toNat l.h.toNat (latchedRaw l SRC).ch = .error k) :
    (ruleEncodeM m P l SRC).verdict = .failure k true := by
  simp only [ruleEncodeM, h]

/-- ENCODE_M's report fills the forced method's entry alone (R165, log 25). -/
theorem complete_encodeM_candSize (s : State) {r : Res Bytes}
    (h : encMethod P m (latchedRaw l SRC).bytes l.w.toNat l.h.toNat (latchedRaw l SRC).ch = r) (k : Fin 11) :
    (complete l (ruleEncodeM m P l SRC) s).candSize[k.val] = if k.val = m then candEntry r else 0xFFFFFFFF := by
  subst h
  rw [complete_candSize]
  exact candOnly_getElem m _ k

/-- The registers hold the latched geometry and the encoded image's channel count. -/
theorem fitsRegisters_of_latch {r : Result} {B : Bytes} {c : Nat} (hm : r.flags.method ≤ 10) (hw : r.w = l.w.toNat)
    (hh : r.h = l.h.toNat) (hch : r.ch = (raw B c).ch) : r.FitsRegisters := by
  have hw' := l.w.isLt
  have hh' := l.h.isLt
  have hch' := raw_ch_cases B c
  constructor <;> omega

/-- The checks of ENCODE leave a source that holds the whole image (R164). -/
theorem checksEncode_imageLen (h : checksEncode P l = .ok ()) : l.imageLen ≤ l.srcLen.toNat := by
  simp only [checksEncode, bind_unit_ok, require_ok, decide_eq_true_eq] at h
  obtain ⟨-, -, -, hlen⟩ := h
  exact hlen

end

/-! ## The statements -/

/-- Settles O32: the selector's choice and sizes, on the raw bytes of an image that the source holds whole. -/
theorem ImageCommands.encode : Obligations.Encode := by
  intro s l h W H B x
  have hlen := checksEncode_imageLen h.operands
  have hB : B.length = W * H * l.ch.toNat := by
    rw [List.length_take, source, Memory.read_length]
    exact Nat.min_eq_left hlen
  have h3 : l.ch.toNat = 3 ↔ l.ch = 3 := BitVec.toNat_inj (y := (3 : Word))
  have h4 : l.ch.toNat = 4 ↔ l.ch = 4 := BitVec.toNat_inj (y := (4 : Word))
  obtain ⟨m, Y, hchoice, hm, hY, hleast⟩ := select_choice s.cfg x.bytes W H x.ch
  refine ⟨?_, fun hx => raw_unchanged (hx.imp_right h3.2), fun hx hc => ?_, m, Y, _, hm, hY, hleast,
    h.runCommand_eq ruleEncode, fun k => ?_,
    complete_finish h.memory (ruleEncode_verdict hchoice) (fitsRegisters_of_latch hm rfl rfl rfl)
      (h.dst_space (i := .encode) rfl)⟩
  · rw [raw_alpha_iff, ← h4]
    exact and_congr_right fun hc => hasAlpha_iff (hc ▸ hB)
  · obtain ⟨hch3, hbytes⟩ := raw_opaque (h4.2 hc) hx
    rw [h4.2 hc] at hB
    exact ⟨hch3, hbytes.trans (stripAlpha_eq hB)⟩
  · rw [complete_candSize]
    exact candVector_select _ _ _ _ _ k

/-- Settles O33: each row's rule, on the forced method's success and on its failure. -/
theorem encodeForced : Obligations.EncodeForced := by
  intro p hrow s l h W H x
  obtain ⟨hchecks, hrun⟩ := exec_encodeMRow p hrow
  have hexec := (hrun s).trans (h.runCommand_eq (ruleEncodeM p.1))
  refine ⟨fun Y hY => ⟨_, hexec, complete_encodeM_candSize s hY, ?_⟩,
    fun kind hk => ⟨_, hexec, fun j => ?_, complete_failure h.memory (ruleEncodeM_verdict_error hk)⟩⟩
  · exact complete_finish h.memory (ruleEncodeM_verdict_ok hY) (fitsRegisters_of_latch (encMethod_le hY) rfl rfl rfl)
      (h.dst_space (i := .encode) rfl)
  · rw [complete_encodeM_candSize s hk j]
    exact ite_self _

end Sys2Proof.Machine
end

section
/-! The tags in internal storage (42_filter_engine R249, R250, 44_method_catalog R345): each row of the table runs
one reconstruction stage on the work state, and method 4's body without SCRATCH_BYTES is its two stages in sequence. -/

namespace Sys2Proof.Machine

theorem rowTagRows_stage : ∀ p ∈ rowTagRows, ∀ s, exec p.2 s = runStage (filterStage p.1) s := by
  simp only [rowTagRows, List.forall_mem_cons]
  exact ⟨fun _ => rfl, fun _ => rfl, fun _ => rfl, fun _ => rfl, fun _ => rfl, List.forall_mem_nil _⟩

theorem m4TagRows_stage : ∀ p ∈ m4TagRows, ∀ s, exec p.2 s = runStage (predStage p.1) s := by
  simp only [m4TagRows, List.forall_mem_cons]
  exact ⟨fun _ => rfl, fun _ => rfl, fun _ => rfl, List.forall_mem_nil _⟩

section
variable {v : Variant} {P : Params} {wk : Work}

/-- An image of no pixels has its payload left unexamined (46_decoder R414). -/
theorem predStage_empty (h : wk.w * wk.h = 0) : predStage v P wk = { wk with out := [] } := if_pos h

theorem predStage_ok {X : Bytes} (h : wk.w * wk.h ≠ 0) (hX : dec4Body P v wk.inp wk.w wk.c = .ok X) :
    predStage v P wk = { wk with out := X } := by
  simp only [predStage, if_neg h, hX]

theorem predStage_error {k : ErrKind} (h : wk.w * wk.h ≠ 0) (hk : dec4Body P v wk.inp wk.w wk.c = .error k) :
    predStage v P wk = { wk with fail := some k } := by
  simp only [predStage, if_neg h, hk]

end

theorem dec4Body_unbounded {P : Params} (h : P.scratch = none) (v : Variant) (Y : Bytes) (W C : Nat) :
    dec4Body P v Y W C = (zdecode none Y).map fun E => predInv v E W C := by
  simp only [dec4Body, hold_unbounded h, h]
  cases zdecode none Y <;> rfl

/-- Settles O49: each tag's stage on the work state; the stage of a method-4 tag by the outcome of its body. -/
theorem tagCodes : Obligations.TagCodes := by
  intro s l tainted hp
  refine ⟨fun p hrow => (rowTagRows_stage p hrow s).trans (runStage_busy hp), fun p hrow =>
    ⟨_, (m4TagRows_stage p hrow s).trans (runStage_busy hp), predStage_empty, fun hpixels => ?_,
      fun hscratch => dec4Body_unbounded hscratch _ _ _ _⟩⟩
  cases hbody : dec4Body s.cfg p.1 s.work.inp s.work.w s.work.c with
  | ok X => exact predStage_ok hpixels hbody
  | error k => exact predStage_error hpixels hbody

end Sys2Proof.Machine
end

section
/-! Run-length encoding (41_transform_primitives R200 to R202): the pixels of a buffer and their concatenation, the
runs of a pixel list as a list of pairs, and RLEINV one pair at a time. -/

namespace Sys2Proof.Machine

/-! ## Pixels -/

theorem repeatBytes_eq_flatten (p : Bytes) (k : Nat) : repeatBytes p k = (List.replicate k p).flatten := by
  induction k with
  | zero => rfl
  | succ k ih => rw [repeatBytes, ih, List.replicate_succ, List.flatten_cons]

/-- Consecutive slices of one size, from the first, are the bytes they cover. -/
theorem flatten_slices (s : Bytes) (n N : Nat) :
    ((List.range N).map fun j => slice s (j * n) n).flatten = s.take (N * n) := by
  induction N with
  | zero => rw [Nat.zero_mul]; rfl
  | succ N ih =>
    rw [List.range_succ, List.map_append, List.flatten_append, ih, List.map_singleton, List.flatten_singleton, slice,
      Nat.succ_mul, List.take_add]

/-- A buffer of whole pixels is the concatenation of its pixels (00_scope R22). -/
theorem flatten_px {R : Bytes} {C : Nat} (hR : R.length % C = 0) : (px R C).flatten = R := by
  rw [px, flatten_slices, Nat.div_mul_cancel (Nat.dvd_of_mod_eq_zero hR), List.take_length]

/-! ## Runs -/

/-- The pairs that `rleRun` writes: the current run of `k` copies of `p`, then the runs after it (R200). -/
def runPairs (p : Bytes) (k : Nat) : List Bytes → List (Nat × Bytes)
  | [] => [(k, p)]
  | q :: qs => if q = p ∧ k < 255 then runPairs p (k + 1) qs else (k, p) :: runPairs q 1 qs

/-- The pairs of a pixel list (R127, R200). -/
def rlePairs : List Bytes → List (Nat × Bytes)
  | [] => []
  | p :: ps => runPairs p 1 ps

/-- The bytes of a list of pairs: a count byte and a pixel for each (R127). -/
def pairBytes (pairs : List (Nat × Bytes)) : Bytes := pairs.flatMap fun q => BitVec.ofNat 8 q.1 :: q.2

/-- The pixels that a list of pairs stands for (R201). -/
def pairPixels (pairs : List (Nat × Bytes)) : List Bytes := pairs.flatMap fun q => List.replicate q.1 q.2

theorem pairBytes_cons (q : Nat × Bytes) (pairs : List (Nat × Bytes)) :
    pairBytes (q :: pairs) = BitVec.ofNat 8 q.1 :: q.2 ++ pairBytes pairs := List.flatMap_cons

theorem pairPixels_cons (q : Nat × Bytes) (pairs : List (Nat × Bytes)) :
    pairPixels (q :: pairs) = List.replicate q.1 q.2 ++ pairPixels pairs := List.flatMap_cons

theorem runPairs_join {p : Bytes} {k : Nat} (hk : k < 255) (qs : List Bytes) :
    runPairs p k (p :: qs) = runPairs p (k + 1) qs := if_pos ⟨rfl, hk⟩

theorem runPairs_break {p q : Bytes} {k : Nat} (h : ¬(q = p ∧ k < 255)) (qs : List Bytes) :
    runPairs p k (q :: qs) = (k, p) :: runPairs q 1 qs := if_neg h

/-- The first run is the current pixel's. -/
theorem head_runPairs (p : Bytes) (k : Nat) (qs : List Bytes) : ∃ n, (runPairs p k qs).head? = some (n, p) := by
  induction qs generalizing k with
  | nil => exact ⟨k, rfl⟩
  | cons q qs ih =>
    by_cases h : q = p ∧ k < 255
    · obtain ⟨rfl, hk⟩ := h
      rw [runPairs_join hk]
      exact ih (k + 1)
    · rw [runPairs_break h]
      exact ⟨k, rfl⟩

theorem rleRun_eq (p : Bytes) (k : Nat) (qs : List Bytes) : rleRun p k qs = pairBytes (runPairs p k qs) := by
  induction qs generalizing p k with
  | nil => exact (List.append_nil _).symm
  | cons q qs ih =>
    rw [rleRun]
    by_cases h : q = p ∧ k < 255
    · rw [if_pos h, ih, runPairs, if_pos h]
    · rw [if_neg h, ih, runPairs_break h, pairBytes_cons]
      rfl

theorem pairPixels_runPairs (p : Bytes) (k : Nat) (qs : List Bytes) :
    pairPixels (runPairs p k qs) = List.replicate k p ++ qs := by
  induction qs generalizing p k with
  | nil => rfl
  | cons q qs ih =>
    by_cases h : q = p ∧ k < 255
    · obtain ⟨rfl, hk⟩ := h
      rw [runPairs_join hk, ih, List.replicate_succ', List.append_assoc]
      rfl
    · rw [runPairs_break h, pairPixels_cons, ih]
      rfl

/-- A run holds 1 to 255 copies of a pixel of the list (R200). -/
theorem mem_runPairs {p : Bytes} {k : Nat} {qs : List Bytes} (hk : 1 ≤ k) (hk' : k ≤ 255) :
    ∀ x ∈ runPairs p k qs, 1 ≤ x.1 ∧ x.1 ≤ 255 ∧ x.2 ∈ p :: qs := by
  induction qs generalizing p k with
  | nil => exact List.forall_mem_singleton.2 ⟨hk, hk', List.mem_cons_self⟩
  | cons q qs ih =>
    by_cases h : q = p ∧ k < 255
    · obtain ⟨rfl, hlt⟩ := h
      rw [runPairs_join hlt]
      intro x hx
      obtain ⟨h1, h2, hmem⟩ := ih (Nat.succ_pos k) hlt x hx
      exact ⟨h1, h2, List.mem_cons_of_mem _ hmem⟩
    · rw [runPairs_break h, List.forall_mem_cons]
      refine ⟨⟨hk, hk', List.mem_cons_self⟩, fun x hx => ?_⟩
      obtain ⟨h1, h2, hmem⟩ := ih (Nat.le_refl 1) (by decide) x hx
      exact ⟨h1, h2, List.mem_cons_of_mem _ hmem⟩

/-- A run that is followed by one of the same pixel is full (R200). -/
theorem isChain_runPairs {p : Bytes} {k : Nat} {qs : List Bytes} (hk : k ≤ 255) :
    (runPairs p k qs).IsChain fun x y => x.2 = y.2 → x.1 = 255 := by
  induction qs generalizing p k with
  | nil => exact List.isChain_singleton _
  | cons q qs ih =>
    by_cases h : q = p ∧ k < 255
    · obtain ⟨rfl, hlt⟩ := h
      rw [runPairs_join hlt]
      exact ih hlt
    · rw [runPairs_break h, List.isChain_cons]
      refine ⟨fun y hy (heq : p = y.2) => ?_, ih (by decide)⟩
      obtain ⟨n, hhead⟩ := head_runPairs q 1 qs
      cases hhead.symm.trans hy
      exact Nat.le_antisymm hk (Nat.not_lt.1 fun hlt => h ⟨heq.symm, hlt⟩)

theorem rlePixels_eq (ps : List Bytes) : rlePixels ps = pairBytes (rlePairs ps) := by
  cases ps with
  | nil => rfl
  | cons p ps => exact rleRun_eq p 1 ps

theorem pairPixels_rlePairs (ps : List Bytes) : pairPixels (rlePairs ps) = ps := by
  cases ps with
  | nil => rfl
  | cons p ps => exact pairPixels_runPairs p 1 ps

theorem mem_rlePairs {ps : List Bytes} : ∀ x ∈ rlePairs ps, 1 ≤ x.1 ∧ x.1 ≤ 255 ∧ x.2 ∈ ps := by
  cases ps with
  | nil => exact List.forall_mem_nil _
  | cons p ps => exact mem_runPairs (Nat.le_refl 1) (by decide)

theorem isChain_rlePairs (ps : List Bytes) : (rlePairs ps).IsChain fun x y => x.2 = y.2 → x.1 = 255 := by
  cases ps with
  | nil => exact List.isChain_nil
  | cons p ps => exact isChain_runPairs (by decide)

/-! ## RLEINV, pair by pair -/

/-- A bound of at least the stream's length is never reached (log 27). -/
theorem rleInvLoop_fuel {C f f' : Nat} {S : Bytes} (hf : S.length ≤ f) (hf' : S.length ≤ f') :
    rleInvLoop C f S = rleInvLoop C f' S := by
  induction f generalizing f' S with
  | zero =>
    obtain rfl := List.eq_nil_of_length_eq_zero (Nat.le_zero.1 hf)
    cases f' <;> rfl
  | succ f ih =>
    cases S with
    | nil => cases f' <;> rfl
    | cons k rest =>
      obtain ⟨f', rfl⟩ := Nat.exists_eq_succ_of_ne_zero (Nat.ne_of_gt (Nat.zero_lt_of_lt hf'))
      have hdrop : (rest.drop C).length ≤ rest.length := (List.drop_sublist _ _).length_le
      rw [rleInvLoop, rleInvLoop, ih (hdrop.trans (Nat.le_of_succ_le_succ hf))
        (hdrop.trans (Nat.le_of_succ_le_succ hf'))]

theorem rleInv_nil (C : Nat) : rleInv [] C = .ok [] := rfl

theorem rleInv_incomplete {C : Nat} {rest : Bytes} (h : rest.length < C) (k : Byte) :
    rleInv (k :: rest) C = .error .truncatedPayload := if_pos h

/-- A whole pair expands to its count of copies of its pixel, before what the rest gives (R201). -/
theorem rleInv_pair (k : Byte) (p rest : Bytes) :
    rleInv (k :: p ++ rest) p.length =
      (rleInv rest p.length).map fun out => (List.replicate k.toNat p).flatten ++ out := by
  have hwhole : ¬(p ++ rest).length < p.length := by rw [List.length_append]; omega
  have hfuel : rest.length ≤ (p ++ rest).length := by rw [List.length_append]; omega
  rw [rleInv, List.cons_append, List.length_cons, rleInvLoop, if_neg hwhole, List.take_left, List.drop_left,
    repeatBytes_eq_flatten, rleInvLoop_fuel hfuel (Nat.le_refl _), ← rleInv]
  cases rleInv rest p.length <;> rfl

/-- RLEINV of whole pairs whose counts fit a byte gives the pixels they stand for. -/
theorem rleInv_pairBytes {C : Nat} {pairs : List (Nat × Bytes)} (h : ∀ q ∈ pairs, q.1 ≤ 255 ∧ q.2.length = C) :
    rleInv (pairBytes pairs) C = .ok (pairPixels pairs).flatten := by
  induction pairs with
  | nil => rfl
  | cons q pairs ih =>
    obtain ⟨⟨hcount, rfl⟩, hrest⟩ := List.forall_mem_cons.1 h
    have hbyte : (BitVec.ofNat 8 q.1).toNat = q.1 := Nat.mod_eq_of_lt (Nat.lt_succ_of_le hcount)
    calc rleInv (pairBytes (q :: pairs)) q.2.length
      _ = (rleInv (pairBytes pairs) q.2.length).map fun out => (List.replicate q.1 q.2).flatten ++ out := by
        rw [pairBytes_cons, rleInv_pair, hbyte]
      _ = .ok (pairPixels (q :: pairs)).flatten := by
        rw [ih hrest, pairPixels_cons, List.flatten_append]
        rfl

/-! ## The statements -/

theorem mem_rlePairs_px {R : Bytes} {C : Nat} :
    ∀ q ∈ rlePairs (px R C), 1 ≤ q.1 ∧ q.1 ≤ 255 ∧ q.2.length = C := by
  intro q hq
  obtain ⟨hone, hmax, hmem⟩ := mem_rlePairs q hq
  exact ⟨hone, hmax, length_of_mem_px hmem⟩

/-- Settles O51: RLE's pairs expand to the pixels, whose concatenation is the buffer. -/
theorem rleRoundTrip : Obligations.RleRoundTrip := by
  intro R C _ hR
  have hpairs : ∀ q ∈ rlePairs (px R C), q.1 ≤ 255 ∧ q.2.length = C := fun q hq => (mem_rlePairs_px q hq).2
  calc rleInv (rle R C) C
    _ = .ok (pairPixels (rlePairs (px R C))).flatten := by rw [rle, rlePixels_eq, rleInv_pairBytes hpairs]
    _ = .ok R := by rw [pairPixels_rlePairs, flatten_px hR]

/-- Settles O52: the runs are `rlePairs` of the pixels. -/
theorem rleRuns : Obligations.RleRuns :=
  ⟨fun R C _ _ => ⟨rlePairs (px R C), rlePixels_eq _, pairPixels_rlePairs _, mem_rlePairs_px, isChain_rlePairs _⟩,
    rleInv_nil, fun _ k _ hshort => rleInv_incomplete hshort k, rleInv_pair⟩

end Sys2Proof.Machine
end

section
/-! The delta predictors (41_transform_primitives R203 to R210): a prediction is a byte that depends only on the bytes
before it, so PRED and PREDINV extend one byte at a time, and the second undoes the first. -/

namespace Sys2Proof.Machine

/-! ## Predictions -/

theorem natAt_le (X : Bytes) (i : Nat) : natAt X i ≤ 255 := Nat.le_of_lt_succ (natAt_lt X i)

theorem predDelta_le (C : Nat) (X : Bytes) (i : Nat) : predDelta C X i ≤ 255 := by
  unfold predDelta
  split
  · exact natAt_le X _
  · exact Nat.zero_le _

theorem predPaeth_le (W C : Nat) (X : Bytes) (i : Nat) : predPaeth W C X i ≤ 255 := by
  have hleft := natAt_le X (i - C)
  have habove := natAt_le X (i - W * C)
  simp only [predPaeth]
  split_ifs <;> omega

theorem prediction_le (v : Variant) (W C : Nat) (X : Bytes) (i : Nat) : prediction v W C X i ≤ 255 := by
  cases v with
  | delta => exact predDelta_le C X i
  | avg => exact predDelta_le C X i
  | paeth => exact predPaeth_le W C X i

section
variable {C : Nat} {X Y : Bytes} {i : Nat} (hC : 0 < C) (h : ∀ j < i, natAt X j = natAt Y j)
include hC h

theorem predDelta_congr : predDelta C X i = predDelta C Y i := by
  unfold predDelta
  split
  · exact h _ (by omega)
  · rfl

theorem predPaeth_congr (W : Nat) : predPaeth W C X i = predPaeth W C Y i := by
  simp only [predPaeth]
  by_cases hfirst : i / C = 0
  · rw [if_pos hfirst, if_pos hfirst]
  have hi : C ≤ i := Nat.not_lt.1 fun hlt => hfirst (Nat.div_eq_of_lt hlt)
  have hleft : natAt X (i - C) = natAt Y (i - C) := h _ (by omega)
  by_cases hrow : i / C / W = 0
  · rw [if_neg hfirst, if_neg hfirst, if_pos hrow, if_pos hrow, hleft]
  have hW : 0 < W := Nat.pos_of_ne_zero fun hzero => hrow (by rw [hzero, Nat.div_zero])
  have hoffset : 0 < W * C := Nat.mul_pos hW hC
  have habove : natAt X (i - W * C) = natAt Y (i - W * C) := h _ (by omega)
  rw [hleft, habove]

/-- A prediction reads only the bytes before its own (R203, R209). -/
theorem prediction_congr (v : Variant) (W : Nat) : prediction v W C X i = prediction v W C Y i := by
  cases v with
  | delta => exact predDelta_congr hC h
  | avg => exact predDelta_congr hC h
  | paeth => exact predPaeth_congr hC h W

end

theorem natAt_append_left {X : Bytes} {i : Nat} (h : i < X.length) (Y : Bytes) : natAt (X ++ Y) i = natAt X i :=
  congrArg BitVec.toNat (List.getD_append X Y 0 i h)

theorem prediction_append {v : Variant} {W C : Nat} {X : Bytes} {i : Nat} (hC : 0 < C) (hi : i ≤ X.length)
    (Y : Bytes) : prediction v W C (X ++ Y) i = prediction v W C X i :=
  prediction_congr hC (fun _ hj => natAt_append_left (hj.trans_le hi) Y) v W

/-! ## Residuals -/

theorem length_pred (v : Variant) (R : Bytes) (W C : Nat) : (pred v R W C).length = R.length := by
  rw [pred, List.length_map, List.length_range]

theorem pred_getD {v : Variant} {R : Bytes} {W C i : Nat} (hi : i < R.length) :
    (pred v R W C).getD i 0 = R.getD i 0 - byteOf (prediction v W C R i) := by
  rw [List.getD_eq_getElem _ _ (by rwa [length_pred])]
  simp only [pred, List.getElem_map, List.getElem_range]

/-- The residuals of the bytes before do not change when a byte is added (R203). -/
theorem pred_concat (v : Variant) (R : Bytes) (b : Byte) {W C : Nat} (hC : 0 < C) :
    pred v (R ++ [b]) W C = pred v R W C ++ [b - byteOf (prediction v W C R R.length)] := by
  have hbefore : ∀ i ∈ List.range R.length, (R ++ [b]).getD i 0 - byteOf (prediction v W C (R ++ [b]) i)
      = R.getD i 0 - byteOf (prediction v W C R i) := by
    intro i hi
    have hlt := List.mem_range.1 hi
    rw [List.getD_append _ _ _ _ hlt, prediction_append hC hlt.le]
  have hlast : (R ++ [b]).getD R.length 0 = b := by
    rw [List.getD_append_right _ _ _ _ (Nat.le_refl _), Nat.sub_self]
    rfl
  rw [pred, List.length_append, List.length_singleton, List.range_succ, List.map_append, List.map_congr_left hbefore,
    List.map_singleton, hlast, prediction_append hC (Nat.le_refl _), ← pred]

/-! ## Reconstruction -/

theorem predInvLoop_append (v : Variant) (W C : Nat) (out S T : Bytes) :
    predInvLoop v W C out (S ++ T) = predInvLoop v W C (predInvLoop v W C out S) T := by
  induction S generalizing out with
  | nil => rfl
  | cons s S ih => exact ih _

theorem length_predInv (v : Variant) (S : Bytes) (W C : Nat) : (predInv v S W C).length = S.length := by
  induction S using List.reverseRecOn with
  | nil => rfl
  | append_singleton S s ih =>
    rw [predInv] at ih ⊢
    rw [predInvLoop_append, predInvLoop, predInvLoop, List.length_append, List.length_append, ih]
    rfl

/-- PREDINV goes byte by byte: a residual more adds the byte it makes with the prediction from the bytes before it
(R209). -/
theorem predInv_concat (v : Variant) (S : Bytes) (s : Byte) (W C : Nat) :
    predInv v (S ++ [s]) W C =
      predInv v S W C ++ [s + byteOf (prediction v W C (predInv v S W C) S.length)] := by
  have hlen := length_predInv v S W C
  rw [predInv] at hlen
  rw [predInv, predInvLoop_append, predInvLoop, predInvLoop, hlen]
  rfl

theorem predInv_getD {v : Variant} {S : Bytes} {W C i : Nat} (hC : 0 < C) (hi : i < S.length) :
    (predInv v S W C).getD i 0 = S.getD i 0 + byteOf (prediction v W C (predInv v S W C) i) := by
  induction S using List.reverseRecOn with
  | nil => cases hi
  | append_singleton S s ih =>
    have hlen := length_predInv v S W C
    rw [List.length_append, List.length_singleton] at hi
    rw [predInv_concat, prediction_append hC (by omega)]
    obtain hlt | rfl := Nat.lt_succ_iff_lt_or_eq.1 hi
    · rw [List.getD_append _ _ _ _ (by omega), List.getD_append _ _ _ _ hlt, ih hlt]
    · rw [List.getD_append_right _ _ _ _ hlen.le, List.getD_append_right _ _ _ _ (Nat.le_refl _), hlen, Nat.sub_self]
      rfl

/-- Each residual, added to the prediction it was taken from, gives the byte back (R209). -/
theorem predInv_pred (v : Variant) (R : Bytes) {W C : Nat} (hC : 0 < C) : predInv v (pred v R W C) W C = R := by
  induction R using List.reverseRecOn with
  | nil => rfl
  | append_singleton R b ih =>
    rw [pred_concat v R b hC, predInv_concat, ih, length_pred, BitVec.sub_add_cancel]

theorem pred_delta_eq_avg (R : Bytes) (W C : Nat) : pred .delta R W C = pred .avg R W C := rfl

theorem predInvLoop_delta_eq_avg (W C : Nat) (out S : Bytes) :
    predInvLoop .delta W C out S = predInvLoop .avg W C out S := by
  induction S generalizing out with
  | nil => rfl
  | cons s S ih => exact ih _

/-! ## Bytes as integers -/

theorem toNat_sub_byteOf (b : Byte) (n : Nat) :
    ((b - byteOf n).toNat : Int) = ((b.toNat : Int) - n) % 256 := by
  have hb := b.isLt
  rw [byteOf, BitVec.toNat_sub, BitVec.toNat_ofNat]
  omega

theorem toNat_add_byteOf (b : Byte) (n : Nat) : (b + byteOf n).toNat = (b.toNat + n) % 256 := by
  rw [byteOf, BitVec.toNat_add, BitVec.toNat_ofNat, Nat.add_mod_mod]

theorem natAt_pred {v : Variant} {R : Bytes} {W C i : Nat} (hi : i < R.length) :
    (natAt (pred v R W C) i : Int) = ((natAt R i : Int) - prediction v W C R i) % 256 := by
  rw [natAt, pred_getD hi, toNat_sub_byteOf, ← natAt]

theorem natAt_predInv {v : Variant} {S : Bytes} {W C i : Nat} (hC : 0 < C) (hi : i < S.length) :
    natAt (predInv v S W C) i = (natAt S i + prediction v W C (predInv v S W C) i) % 256 := by
  rw [natAt, predInv_getD hC hi, toNat_add_byteOf, ← natAt]

/-- Settles O53: the statement's prediction is the model's, variant by variant; its laws hold for width 0 too, where the
model's function is total (log 28). -/
theorem predictorLaws : Obligations.PredictorLaws := by
  intro v R W C hC _ predicted
  have hmodel : predicted = prediction v W C := by cases v <;> rfl
  refine ⟨pred_delta_eq_avg R W C, predInvLoop_delta_eq_avg W C [] R, length_pred v R W C, length_predInv v R W C,
    fun i hi => ?_, predInv_pred v R hC⟩
  rw [hmodel]
  exact ⟨prediction_le v W C R i, natAt_pred hi, natAt_predInv hC hi⟩

end Sys2Proof.Machine
end

section
/-! The palette (41_transform_primitives R211 to R215): the table as the distinct pixels in order of first appearance,
the stream PAL writes, and PALINV on a stream split into its count, its table and its indices. -/

namespace Sys2Proof.Machine

/-! ## The table -/

/-- A pixel is added to the table where it first appears (R212). -/
theorem palTable_concat (ps : List Bytes) (p : Bytes) :
    palTable (ps ++ [p]) = if p ∈ palTable ps then palTable ps else palTable ps ++ [p] := by
  rw [palTable, List.foldl_append]
  rfl

theorem mem_palTable {ps : List Bytes} {q : Bytes} : q ∈ palTable ps ↔ q ∈ ps := by
  induction ps using List.reverseRecOn with
  | nil => exact Iff.rfl
  | append_singleton ps p ih =>
    rw [palTable_concat, List.mem_append, List.mem_singleton, ← ih]
    split
    next hin => exact ⟨.inl, fun h => h.elim id fun heq => heq ▸ hin⟩
    next => rw [List.mem_append, List.mem_singleton]

/-- The table is in order of first appearance (R213). -/
theorem palTable_ordered (ps : List Bytes) : (palTable ps).Pairwise fun p q => ps.idxOf p < ps.idxOf q := by
  induction ps using List.reverseRecOn with
  | nil => exact List.Pairwise.nil
  | append_singleton ps p ih =>
    have hbefore : ∀ q ∈ palTable ps, (ps ++ [p]).idxOf q = ps.idxOf q := fun q hq =>
      List.idxOf_append_of_mem (mem_palTable.1 hq)
    have hkept : (palTable ps).Pairwise fun q q' => (ps ++ [p]).idxOf q < (ps ++ [p]).idxOf q' :=
      ih.imp_of_mem fun hq hq' hlt => by rwa [hbefore _ hq, hbefore _ hq']
    rw [palTable_concat]
    split
    next => exact hkept
    next hnew =>
      refine List.pairwise_append.2 ⟨hkept, List.pairwise_singleton _ _, fun q hq q' hq' => ?_⟩
      obtain rfl := List.mem_singleton.1 hq'
      rw [hbefore q hq, List.idxOf_append_of_notMem fun hin => hnew (mem_palTable.2 hin)]
      exact (List.idxOf_lt_length_iff.2 (mem_palTable.1 hq)).trans_le (Nat.le_add_right _ _)

theorem palTable_nodup (ps : List Bytes) : (palTable ps).Nodup :=
  (palTable_ordered ps).imp fun hlt => ne_of_apply_ne ps.idxOf hlt.ne

theorem palTable_order {ps : List Bytes} {j k : Nat} {p q : Bytes} (hp : (palTable ps)[j]? = some p)
    (hq : (palTable ps)[k]? = some q) (hjk : j < k) : ps.idxOf p < ps.idxOf q := by
  obtain ⟨hj, rfl⟩ := List.getElem?_eq_some_iff.1 hp
  obtain ⟨hk, rfl⟩ := List.getElem?_eq_some_iff.1 hq
  exact List.pairwise_iff_getElem.1 (palTable_ordered ps) j k hj hk hjk

/-! ## The stream -/

/-- The index byte of each pixel (R212). -/
def palIndices (ps : List Bytes) : Bytes := ps.map fun p => byteOf ((palTable ps).idxOf p)

theorem pal_overflow {R : Bytes} {C : Nat} (h : 256 < (palTable (px R C)).length) :
    pal R C = .error .paletteOverflow := if_pos h

theorem pal_ok {R : Bytes} {C : Nat} (h : (palTable (px R C)).length ≤ 256) :
    pal R C = .ok (u16le (palTable (px R C)).length ++ (palTable (px R C)).flatten ++ palIndices (px R C)) :=
  if_neg (Nat.not_lt.2 h)

/-- An index byte holds the place of its pixel in a table of at most 256. -/
theorem palIndex_toNat {ps : List Bytes} {p : Bytes} (h : (palTable ps).length ≤ 256) (hp : p ∈ ps) :
    (byteOf ((palTable ps).idxOf p)).toNat = (palTable ps).idxOf p :=
  Nat.mod_eq_of_lt ((List.idxOf_lt_length_iff.2 (mem_palTable.2 hp)).trans_le h)

theorem palTable_index {ps : List Bytes} {p : Bytes} (h : (palTable ps).length ≤ 256) (hp : p ∈ ps) :
    (palTable ps)[(byteOf ((palTable ps).idxOf p)).toNat]? = some p := by
  rw [palIndex_toNat h hp]
  exact List.getElem?_idxOf (mem_palTable.2 hp)

theorem palIndices_getElem? {ps : List Bytes} {j : Nat} {p : Bytes} (h : ps[j]? = some p) :
    (palIndices ps)[j]? = some (byteOf ((palTable ps).idxOf p)) := by
  rw [palIndices, List.getElem?_map, h]
  rfl

theorem mem_palIndices_lt {ps : List Bytes} (h : (palTable ps).length ≤ 256) :
    ∀ b ∈ palIndices ps, b.toNat < (palTable ps).length := by
  refine List.forall_mem_map.2 fun p hp => ?_
  rw [palIndex_toNat h hp]
  exact List.idxOf_lt_length_iff.2 (mem_palTable.2 hp)

/-! ## The lookup -/

theorem palLookup_cons_ok {T : List Bytes} {b : Byte} {p : Bytes} (h : T[b.toNat]? = some p) (rest : Bytes) :
    palLookup T (b :: rest) = (palLookup T rest).map (p ++ ·) := by
  rw [palLookup, h]
  cases palLookup T rest <;> rfl

/-- Indices below the table's count give their entries (R214). -/
theorem palLookup_ok {n : Nat} {entry : Nat → Bytes} {idx : Bytes} (h : ∀ b ∈ idx, b.toNat < n) :
    palLookup ((List.range n).map entry) idx = .ok (idx.flatMap fun b => entry b.toNat) := by
  induction idx with
  | nil => rfl
  | cons b idx ih =>
    obtain ⟨hb, hidx⟩ := List.forall_mem_cons.1 h
    have hentry : ((List.range n).map entry)[b.toNat]? = some (entry b.toNat) := by
      rw [List.getElem?_map, List.getElem?_range hb]
      rfl
    rw [palLookup_cons_ok hentry, ih hidx, List.flatMap_cons]
    rfl

/-- One index that is not below the table's count corrupts the stream (R214). -/
theorem palLookup_corrupt {T : List Bytes} {idx : Bytes} (h : ∃ b ∈ idx, T.length ≤ b.toNat) :
    palLookup T idx = .error .corruptPayload := by
  induction idx with
  | nil => obtain ⟨b, hb, -⟩ := h; cases hb
  | cons b idx ih =>
    cases hentry : T[b.toNat]? with
    | none => rw [palLookup, hentry]
    | some p =>
      have hlt := (List.getElem?_eq_some_iff.1 hentry).1
      have hidx := (List.exists_mem_cons_iff _ _ _).1 h
      rw [palLookup_cons_ok hentry, ih (hidx.resolve_left (Nat.not_le.2 hlt))]
      rfl

theorem slice_append_left {s : Bytes} {a n : Nat} (h : a + n ≤ s.length) (t : Bytes) :
    slice (s ++ t) a n = slice s a n := by
  rw [slice, slice, List.drop_append_of_le_length (by omega),
    List.take_append_of_le_length (by rw [List.length_drop]; omega)]

/-- PALINV after the two bytes of the count (R214). -/
theorem palInv_counted (b0 b1 : Byte) (Y : Bytes) (C : Nat) :
    palInv (b0 :: b1 :: Y) C =
      if 256 < b0.toNat + 256 * b1.toNat then .error .corruptPayload
      else if Y.length < (b0.toNat + 256 * b1.toNat) * C then .error .truncatedPayload
      else palLookup ((List.range (b0.toNat + 256 * b1.toNat)).map fun k => slice Y (k * C) C)
        (Y.drop ((b0.toNat + 256 * b1.toNat) * C)) := by
  have hcount : ¬(b0 :: b1 :: Y).length < 2 := by simp
  have hshort (m : Nat) : (b0 :: b1 :: Y).length < 2 + m ↔ Y.length < m := by simp only [List.length_cons]; omega
  have hdrop (m : Nat) : (b0 :: b1 :: Y).drop (2 + m) = Y.drop m := by rw [Nat.add_comm]; rfl
  simp only [palInv, if_neg hcount, hshort, slice, hdrop]
  rfl

theorem palInv_uncounted {S : Bytes} (h : S.length < 2) (C : Nat) : palInv S C = .error .truncatedPayload := if_pos h

section
variable {b0 b1 : Byte} {n C : Nat} (hn : b0.toNat + 256 * b1.toNat = n)
include hn

theorem palInv_overcounted (h : 256 < n) (Y : Bytes) : palInv (b0 :: b1 :: Y) C = .error .corruptPayload := by
  rw [palInv_counted, hn, if_pos h]

theorem palInv_short {Y : Bytes} (h : n ≤ 256) (hY : Y.length < n * C) :
    palInv (b0 :: b1 :: Y) C = .error .truncatedPayload := by
  rw [palInv_counted, hn, if_neg (Nat.not_lt.2 h), if_pos hY]

/-- PALINV of a whole table and its indices looks each index up (R214). -/
theorem palInv_table {table : Bytes} (h : n ≤ 256) (htable : table.length = n * C) (idx : Bytes) :
    palInv (b0 :: b1 :: (table ++ idx)) C =
      palLookup ((List.range n).map fun k => slice table (k * C) C) idx := by
  have hwhole : ¬(table ++ idx).length < n * C := by rw [List.length_append]; omega
  have hentry : ∀ k ∈ List.range n, slice (table ++ idx) (k * C) C = slice table (k * C) C := fun k hk => by
    refine slice_append_left ?_ idx
    rw [htable, ← Nat.succ_mul]
    exact Nat.mul_le_mul_right C (List.mem_range.1 hk)
  rw [palInv_counted, hn, if_neg (Nat.not_lt.2 h), if_neg hwhole, List.map_congr_left hentry, List.drop_left' htable]

theorem palInv_corrupt {table idx : Bytes} (h : n ≤ 256) (htable : table.length = n * C)
    (hidx : ∃ b ∈ idx, n ≤ b.toNat) : palInv (b0 :: b1 :: (table ++ idx)) C = .error .corruptPayload := by
  rw [palInv_table hn h htable]
  refine palLookup_corrupt ?_
  rwa [List.length_map, List.length_range]

theorem palInv_ok {table idx : Bytes} (h : n ≤ 256) (htable : table.length = n * C)
    (hidx : ∀ b ∈ idx, b.toNat < n) :
    palInv (b0 :: b1 :: (table ++ idx)) C = .ok (idx.flatMap fun b => slice table (b.toNat * C) C) := by
  rw [palInv_table hn h htable, palLookup_ok (entry := fun k => slice table (k * C) C) hidx]

end

/-! ## The round trip -/

theorem length_flatten_pixels {C : Nat} {T : List Bytes} (h : ∀ p ∈ T, p.length = C) :
    T.flatten.length = T.length * C := by
  rw [List.length_flatten, List.map_congr_left h, List.map_const', List.sum_replicate_nat]

/-- Entry `k` of a table stands `k` pixels into its bytes (30_encoding R126). -/
theorem slice_flatten {C : Nat} {T : List Bytes} (h : ∀ p ∈ T, p.length = C) {k : Nat} {p : Bytes}
    (hk : T[k]? = some p) : slice T.flatten (k * C) C = p := by
  induction T generalizing k with
  | nil => cases hk
  | cons q T ih =>
    obtain ⟨rfl, hT⟩ := List.forall_mem_cons.1 h
    cases k with
    | zero =>
      cases hk
      rw [Nat.zero_mul]
      exact List.take_left
    | succ k =>
      rw [← ih hT hk, slice, slice, List.flatten_cons, Nat.succ_mul, Nat.add_comm, ← List.drop_drop, List.drop_left]

/-- PALINV of the stream PAL writes looks up the pixels in order. -/
theorem palInv_stream {ps : List Bytes} {C : Nat} (hC : ∀ p ∈ ps, p.length = C) (h : (palTable ps).length ≤ 256) :
    palInv (u16le (palTable ps).length ++ (palTable ps).flatten ++ palIndices ps) C = .ok ps.flatten := by
  have hpixels : ∀ p ∈ palTable ps, p.length = C := fun p hp => hC p (mem_palTable.1 hp)
  have hentry : ∀ p ∈ ps,
      slice (palTable ps).flatten ((byteOf ((palTable ps).idxOf p)).toNat * C) C = p := fun p hp =>
    slice_flatten hpixels (palTable_index h hp)
  calc palInv (u16le (palTable ps).length ++ (palTable ps).flatten ++ palIndices ps) C
    _ = .ok ((palIndices ps).flatMap fun b => slice (palTable ps).flatten (b.toNat * C) C) :=
      palInv_ok (u16le_value (by omega)) h (length_flatten_pixels hpixels) (mem_palIndices_lt h)
    _ = .ok ps.flatten := by
      rw [palIndices, List.flatMap_map, List.flatMap_congr hentry, List.flatMap_id']

/-! ## The statements -/

/-- Settles O54: PALINV gives the pixels, whose concatenation is the buffer. -/
theorem paletteRoundTrip : Obligations.PaletteRoundTrip := by
  intro R C _ hR hdistinct
  refine ⟨_, pal_ok hdistinct, ?_⟩
  rw [palInv_stream (fun _ => length_of_mem_px) hdistinct, flatten_px hR]

/-- Settles O55: the table is `palTable` of the pixels and the indices are `palIndices`; each clause of the lookup is a
branch of PALINV. -/
theorem paletteTable : Obligations.PaletteTable := by
  refine ⟨fun R C _ => ⟨palTable (px R C), palTable_nodup _, fun _ => mem_palTable, rfl,
    fun _ _ _ _ => palTable_order, pal_overflow, fun h => ⟨palIndices (px R C), pal_ok h, List.length_map _,
    fun _ p hp => ⟨_, palIndices_getElem? hp, palTable_index h (List.mem_of_getElem? hp)⟩⟩⟩,
    fun _ C hshort => palInv_uncounted hshort C, ?_⟩
  intro b0 b1 Y C n
  refine ⟨fun h => palInv_overcounted rfl h Y, palInv_short rfl, fun h table idx hY htable => ?_⟩
  rw [hY]
  exact ⟨palInv_corrupt rfl h htable, palInv_ok rfl h htable⟩

end Sys2Proof.Machine
end

section
/-! The row filters and the filter streams (42_filter_engine R240 to R254): FROW and UNROW extend one byte at a time,
and the second undoes the first; FILTDEC extends one row at a time, from any row above, so it gives back every image
whose rows are tagged with the types that filtered them. -/

namespace Sys2Proof.Machine

/-! ## Predictions -/

/-- The prediction of byte `i` of row `r` below row `q` (R240 to R243). -/
def rowPrediction (t : Filter) (r q : Bytes) (bpp i : Nat) : Nat :=
  filterPred t (before r bpp i) (natAt q i) (before q bpp i)

/-- A left neighbour is a byte before its own (R240). -/
theorem before_append {r : Bytes} {bpp i : Nat} (hbpp : 0 < bpp) (hi : i ≤ r.length) (s : Bytes) :
    before (r ++ s) bpp i = before r bpp i := by
  unfold before
  split
  next hleft => exact natAt_append_left (by omega) s
  next => rfl

theorem rowPrediction_append {t : Filter} {r q : Bytes} {bpp i : Nat} (hbpp : 0 < bpp) (hi : i ≤ r.length)
    (s : Bytes) : rowPrediction t (r ++ s) q bpp i = rowPrediction t r q bpp i := by
  rw [rowPrediction, before_append hbpp hi, ← rowPrediction]

section
variable {a b c : Nat}

/-- Left, where it is at the least distance (R243). -/
theorem paeth_left (hb : ((a : Int) + b - c - a).natAbs ≤ ((a : Int) + b - c - b).natAbs)
    (hc : ((a : Int) + b - c - a).natAbs ≤ ((a : Int) + b - c - c).natAbs) : paeth a b c = a := if_pos ⟨hb, hc⟩

/-- Up, where it is nearer than left and no farther than upper left (R243). -/
theorem paeth_up (ha : ((a : Int) + b - c - b).natAbs < ((a : Int) + b - c - a).natAbs)
    (hc : ((a : Int) + b - c - b).natAbs ≤ ((a : Int) + b - c - c).natAbs) : paeth a b c = b :=
  (if_neg fun hleft => absurd hleft.1 (Nat.not_le.2 ha)).trans (if_pos hc)

/-- Upper left, where it is nearer than both others (R243). -/
theorem paeth_upperLeft (ha : ((a : Int) + b - c - c).natAbs < ((a : Int) + b - c - a).natAbs)
    (hb : ((a : Int) + b - c - c).natAbs < ((a : Int) + b - c - b).natAbs) : paeth a b c = c :=
  (if_neg fun hleft => absurd hleft.2 (Nat.not_le.2 ha)).trans (if_neg (Nat.not_le.2 hb))

end

/-! ## FROW -/

theorem length_filterRow (t : Filter) (r q : Bytes) (bpp : Nat) : (filterRow t r q bpp).length = r.length := by
  rw [filterRow, List.length_map, List.length_range]

theorem filterRow_getD {t : Filter} {r q : Bytes} {bpp i : Nat} (hi : i < r.length) :
    (filterRow t r q bpp).getD i 0 = r.getD i 0 - byteOf (rowPrediction t r q bpp i) := by
  rw [List.getD_eq_getElem _ _ (by rwa [length_filterRow])]
  simp only [filterRow, List.getElem_map, List.getElem_range, rowPrediction]

theorem natAt_filterRow {t : Filter} {r q : Bytes} {bpp i : Nat} (hi : i < r.length) :
    (natAt (filterRow t r q bpp) i : Int) = ((natAt r i : Int) - rowPrediction t r q bpp i) % 256 := by
  rw [natAt, filterRow_getD hi, toNat_sub_byteOf, ← natAt]

theorem filterRow_eq (t : Filter) (r q : Bytes) (bpp : Nat) : filterRow t r q bpp =
    (List.range r.length).map fun i => r.getD i 0 - byteOf (rowPrediction t r q bpp i) := rfl

/-- The filtered bytes before do not change when a byte is added to the row (R240, R244). -/
theorem filterRow_concat (t : Filter) (r : Bytes) (b : Byte) (q : Bytes) {bpp : Nat} (hbpp : 0 < bpp) :
    filterRow t (r ++ [b]) q bpp = filterRow t r q bpp ++ [b - byteOf (rowPrediction t r q bpp r.length)] := by
  have hbefore : ∀ i ∈ List.range r.length, (r ++ [b]).getD i 0 - byteOf (rowPrediction t (r ++ [b]) q bpp i)
      = r.getD i 0 - byteOf (rowPrediction t r q bpp i) := by
    intro i hi
    have hlt := List.mem_range.1 hi
    rw [List.getD_append _ _ _ _ hlt, rowPrediction_append hbpp hlt.le]
  have hlast : (r ++ [b]).getD r.length 0 = b := by
    rw [List.getD_append_right _ _ _ _ (Nat.le_refl _), Nat.sub_self]
    rfl
  rw [filterRow_eq, List.length_append, List.length_singleton, List.range_succ, List.map_append,
    List.map_congr_left hbefore, List.map_singleton, hlast, rowPrediction_append hbpp (Nat.le_refl _), ← filterRow_eq]

/-! ## UNROW -/

theorem unfilterLoop_append (t : Filter) (q : Bytes) (bpp : Nat) (r f g : Bytes) :
    unfilterLoop t q bpp r (f ++ g) = unfilterLoop t q bpp (unfilterLoop t q bpp r f) g := by
  induction f generalizing r with
  | nil => rfl
  | cons b f ih => exact ih _

theorem unfilterRow_concat_length (t : Filter) (f : Bytes) (b : Byte) (q : Bytes) (bpp : Nat) :
    unfilterRow t (f ++ [b]) q bpp = unfilterRow t f q bpp ++
      [b + byteOf (rowPrediction t (unfilterRow t f q bpp) q bpp (unfilterRow t f q bpp).length)] :=
  unfilterLoop_append t q bpp [] f [b]

theorem length_unfilterRow (t : Filter) (f q : Bytes) (bpp : Nat) : (unfilterRow t f q bpp).length = f.length := by
  induction f using List.reverseRecOn with
  | nil => rfl
  | append_singleton f b ih =>
    rw [unfilterRow_concat_length, List.length_append, List.length_append, ih]
    rfl

/-- UNROW goes byte by byte: a filtered byte more adds the byte it makes with the prediction from the bytes before it
(R249). -/
theorem unfilterRow_concat (t : Filter) (f : Bytes) (b : Byte) (q : Bytes) (bpp : Nat) :
    unfilterRow t (f ++ [b]) q bpp =
      unfilterRow t f q bpp ++ [b + byteOf (rowPrediction t (unfilterRow t f q bpp) q bpp f.length)] := by
  rw [unfilterRow_concat_length, length_unfilterRow]

theorem unfilterRow_getD {t : Filter} {f q : Bytes} {bpp i : Nat} (hbpp : 0 < bpp) (hi : i < f.length) :
    (unfilterRow t f q bpp).getD i 0 =
      f.getD i 0 + byteOf (rowPrediction t (unfilterRow t f q bpp) q bpp i) := by
  induction f using List.reverseRecOn with
  | nil => cases hi
  | append_singleton f b ih =>
    have hlen := length_unfilterRow t f q bpp
    rw [List.length_append, List.length_singleton] at hi
    rw [unfilterRow_concat, rowPrediction_append hbpp (by omega)]
    obtain hlt | rfl := Nat.lt_succ_iff_lt_or_eq.1 hi
    · rw [List.getD_append _ _ _ _ (by omega), List.getD_append _ _ _ _ hlt, ih hlt]
    · rw [List.getD_append_right _ _ _ _ hlen.le, List.getD_append_right _ _ _ _ (Nat.le_refl _), hlen, Nat.sub_self]
      rfl

theorem natAt_unfilterRow {t : Filter} {f q : Bytes} {bpp i : Nat} (hbpp : 0 < bpp) (hi : i < f.length) :
    natAt (unfilterRow t f q bpp) i =
      (natAt f i + rowPrediction t (unfilterRow t f q bpp) q bpp i) % 256 := by
  rw [natAt, unfilterRow_getD hbpp hi, toNat_add_byteOf, ← natAt]

/-- UNROW adds back the prediction that FROW subtracted, from the same neighbours (R254). -/
theorem unfilterRow_filterRow (t : Filter) (r q : Bytes) {bpp : Nat} (hbpp : 0 < bpp) :
    unfilterRow t (filterRow t r q bpp) q bpp = r := by
  induction r using List.reverseRecOn with
  | nil => rfl
  | append_singleton r b ih =>
    rw [filterRow_concat t r b q hbpp, unfilterRow_concat, ih, length_filterRow, BitVec.sub_add_cancel]

/-! ## FILTDEC, row by row -/

theorem filterOf_tag (t : Filter) : filterOf t.tag = some t := by cases t <;> rfl

/-- A tag over 4 is no filter type (R251). -/
theorem filterOf_bad {b : Byte} (h : 4 < b.toNat) : filterOf b = none := by
  unfold filterOf
  split
  case h_6 => rfl
  all_goals omega

/-- A bound of at least the stream's length is never reached (log 27). -/
theorem filterDecodeLoop_fuel {n bpp f f' : Nat} {q S : Bytes} (hf : S.length ≤ f) (hf' : S.length ≤ f') :
    filterDecodeLoop n bpp f q S = filterDecodeLoop n bpp f' q S := by
  induction f generalizing f' q S with
  | zero =>
    obtain rfl := List.eq_nil_of_length_eq_zero (Nat.le_zero.1 hf)
    cases f' <;> rfl
  | succ f ih =>
    cases S with
    | nil => cases f' <;> rfl
    | cons b rest =>
      obtain ⟨f', rfl⟩ := Nat.exists_eq_succ_of_ne_zero (Nat.ne_of_gt (Nat.zero_lt_of_lt hf'))
      have hdrop : (rest.drop n).length ≤ rest.length := (List.drop_sublist _ _).length_le
      have htail (r : Bytes) := ih (q := r) (hdrop.trans (Nat.le_of_succ_le_succ hf))
        (hdrop.trans (Nat.le_of_succ_le_succ hf'))
      simp only [filterDecodeLoop, htail]

/-- FILTDEC of the stream `S` below the row `q`. -/
def filterDecodeBelow (n bpp : Nat) (q S : Bytes) : Res Bytes := filterDecodeLoop n bpp S.length q S

theorem filterDecode_eq (S : Bytes) (n bpp : Nat) : filterDecode S n bpp = filterDecodeBelow n bpp (zeros n) S := rfl

theorem filterDecodeBelow_nil (n bpp : Nat) (q : Bytes) : filterDecodeBelow n bpp q [] = .ok [] := rfl

theorem filterDecodeBelow_bad {n bpp : Nat} {q rest : Bytes} {b : Byte} (h : filterOf b = none) :
    filterDecodeBelow n bpp q (b :: rest) = .error .corruptPayload := by
  simp only [filterDecodeBelow, List.length_cons, filterDecodeLoop, h]

/-- A row is reconstructed by its own tag, and is the row above of the rest of the stream (R250, R252). -/
theorem filterDecodeBelow_row {n bpp : Nat} {q rest : Bytes} {b : Byte} {t : Filter} (h : filterOf b = some t) :
    filterDecodeBelow n bpp q (b :: rest) =
      (filterDecodeBelow n bpp (unfilterRow t (rest.take n) q bpp) (rest.drop n)).map
        (unfilterRow t (rest.take n) q bpp ++ ·) := by
  simp only [filterDecodeBelow, List.length_cons, filterDecodeLoop, h]
  rw [filterDecodeLoop_fuel (List.drop_sublist _ _).length_le (Nat.le_refl _)]
  cases filterDecodeLoop n bpp (rest.drop n).length (unfilterRow t (rest.take n) q bpp) (rest.drop n) <;> rfl

/-- The last row, whole or partial, ends the stream (R253). -/
theorem filterDecodeBelow_last {n bpp : Nat} {q rest : Bytes} (t : Filter) (h : rest.length ≤ n) :
    filterDecodeBelow n bpp q (t.tag :: rest) = .ok (unfilterRow t rest q bpp) := by
  rw [filterDecodeBelow_row (filterOf_tag t), List.take_of_length_le h, List.drop_of_length_le h,
    filterDecodeBelow_nil]
  exact congrArg Except.ok (List.append_nil _)

theorem res_map_nil_append (r : Res Bytes) : r.map ([] ++ ·) = r := by cases r <;> rfl

theorem res_map_append_append (r : Res Bytes) (u v : Bytes) :
    (r.map (v ++ ·)).map (u ++ ·) = r.map (u ++ v ++ ·) := by
  cases r with
  | ok X => exact congrArg Except.ok (List.append_assoc u v X).symm
  | error k => rfl

/-- The rows `out` are those of the stream of `rows` below `q`: each by its own tag, from the one before it (R250). -/
def RowsBelow (bpp : Nat) (q : Bytes) (rows : List (Filter × Bytes)) (out : List Bytes) : Prop :=
  ∀ y t f, rows[y]? = some (t, f) → out[y]? = some (unfilterRow t f ((q :: out).getD y []) bpp)

/-- FILTDEC takes the whole rows off the stream, and the last of them is the row above of what follows (R250). -/
theorem filterDecodeBelow_rows {n bpp : Nat} {q : Bytes} {rows : List (Filter × Bytes)} {out : List Bytes}
    (hn : ∀ x ∈ rows, x.2.length = n) (hlen : out.length = rows.length) (hout : RowsBelow bpp q rows out)
    (T : Bytes) :
    filterDecodeBelow n bpp q ((rows.flatMap fun x => x.1.tag :: x.2) ++ T) =
      (filterDecodeBelow n bpp ((q :: out).getD rows.length []) T).map (out.flatten ++ ·) := by
  induction rows generalizing q out with
  | nil =>
    obtain rfl := List.eq_nil_of_length_eq_zero hlen
    exact (res_map_nil_append _).symm
  | cons x rows ih =>
    obtain ⟨t, f⟩ := x
    obtain ⟨r, out, rfl⟩ := List.exists_cons_of_length_eq_add_one hlen
    obtain ⟨rfl, hrows⟩ := List.forall_mem_cons.1 hn
    obtain rfl : r = unfilterRow t f q bpp := Option.some.inj (hout 0 t f rfl)
    rw [List.flatMap_cons, List.cons_append, List.cons_append, List.append_assoc,
      filterDecodeBelow_row (filterOf_tag t), List.take_left, List.drop_left,
      ih hrows (Nat.succ.inj hlen) fun y => hout (y + 1), res_map_append_append]
    rfl

section
variable {n bpp : Nat} {rows : List (Filter × Bytes)} {out : List Bytes} (hn : ∀ x ∈ rows, x.2.length = n)
  (hlen : out.length = rows.length) (hout : RowsBelow bpp (zeros n) rows out)
include hn hlen hout

theorem filterDecode_rows : filterDecode (rows.flatMap fun x => x.1.tag :: x.2) n bpp = .ok out.flatten := by
  have h := filterDecodeBelow_rows hn hlen hout []
  rw [List.append_nil, ← filterDecode_eq, filterDecodeBelow_nil] at h
  exact h.trans (congrArg Except.ok (List.append_nil _))

theorem filterDecode_rows_bad {b : Byte} (hb : 4 < b.toNat) (rest : Bytes) :
    filterDecode ((rows.flatMap fun x => x.1.tag :: x.2) ++ b :: rest) n bpp = .error .corruptPayload := by
  rw [filterDecode_eq, filterDecodeBelow_rows hn hlen hout, filterDecodeBelow_bad (filterOf_bad hb)]
  rfl

theorem filterDecode_rows_partial (t : Filter) {rest : Bytes} (hrest : rest.length < n) :
    filterDecode ((rows.flatMap fun x => x.1.tag :: x.2) ++ t.tag :: rest) n bpp =
      .ok (out.flatten ++ unfilterRow t rest ((zeros n :: out).getD rows.length []) bpp) := by
  rw [filterDecode_eq, filterDecodeBelow_rows hn hlen hout, filterDecodeBelow_last t hrest.le]
  rfl

end

/-! ## The filtered image -/

theorem length_imageRow {R : Bytes} {n y : Nat} (h : (y + 1) * n ≤ R.length) : (imageRow R n y).length = n := by
  rw [Nat.succ_mul] at h
  rw [imageRow, slice, List.length_take, List.length_drop]
  omega

/-- The tagged rows of an image, row `y` filtered by type `types y` (R245, R248). -/
def taggedRows (types : Nat → Filter) (R : Bytes) (n H C : Nat) : List (Filter × Bytes) :=
  (List.range H).map fun y => (types y, filterRow (types y) (imageRow R n y) (rowAbove R n y) C)

theorem filterUniform_eq (t : Filter) (R : Bytes) (W H C : Nat) : filterUniform t R W H C =
    (taggedRows (fun _ => t) R (W * C) H C).flatMap fun x => x.1.tag :: x.2 := by
  rw [taggedRows, List.flatMap_map]
  rfl

/-- The type of row `y` under the adaptive filter (R248). -/
def adaptiveType (score : Bytes → Nat) (R : Bytes) (W C y : Nat) : Filter :=
  bestFilter score (validFilters y W) (imageRow R (W * C) y) (rowAbove R (W * C) y) C

theorem filterAdaptive_eq (score : Bytes → Nat) (R : Bytes) (W H C : Nat) : filterAdaptive score R W H C =
    (taggedRows (adaptiveType score R W C) R (W * C) H C).flatMap fun x => x.1.tag :: x.2 := by
  rw [taggedRows, List.flatMap_map]
  rfl

/-- The row above row `y` is the zero row, or the row of the image before it (R240). -/
theorem rowAbove_eq_getD {R : Bytes} {n H y : Nat} (hy : y < H) :
    (zeros n :: (List.range H).map (imageRow R n)).getD y [] = rowAbove R n y := by
  cases y with
  | zero => rfl
  | succ y =>
    rw [List.getD_cons_succ, List.getD_eq_getElem?_getD, List.getElem?_map, List.getElem?_range (by omega)]
    rfl

/-- The rows of the image are those of its tagged rows (R254). -/
theorem rowsBelow_taggedRows (types : Nat → Filter) (R : Bytes) (n H : Nat) {C : Nat} (hC : 0 < C) :
    RowsBelow C (zeros n) (taggedRows types R n H C) ((List.range H).map (imageRow R n)) := by
  intro y t f hrow
  have hy : y < H := by
    have hlt := (List.getElem?_eq_some_iff.1 hrow).1
    rwa [taggedRows, List.length_map, List.length_range] at hlt
  rw [taggedRows, List.getElem?_map, List.getElem?_range hy] at hrow
  cases hrow
  rw [rowAbove_eq_getD hy, unfilterRow_filterRow _ _ _ hC, List.getElem?_map, List.getElem?_range hy]
  rfl

/-- FILTDEC gives back an image from its tagged rows, whatever their types (R252, R254). -/
theorem filterDecode_taggedRows (types : Nat → Filter) {R : Bytes} {n H C : Nat} (hC : 0 < C)
    (hR : R.length = H * n) :
    filterDecode ((taggedRows types R n H C).flatMap fun x => x.1.tag :: x.2) n C = .ok R := by
  have hn : ∀ x ∈ taggedRows types R n H C, x.2.length = n := by
    refine List.forall_mem_map.2 fun y hy => ?_
    rw [length_filterRow, length_imageRow]
    exact hR ▸ Nat.mul_le_mul_right n (List.mem_range.1 hy)
  have hlen : ((List.range H).map (imageRow R n)).length = (taggedRows types R n H C).length := by
    rw [taggedRows, List.length_map, List.length_map]
  have hflat : ((List.range H).map (imageRow R n)).flatten = R := by
    calc ((List.range H).map (imageRow R n)).flatten
      _ = R.take (H * n) := flatten_slices R n H
      _ = R := by rw [← hR, List.take_length]
  rw [filterDecode_rows hn hlen (rowsBelow_taggedRows types R n H hC), hflat]

/-! ## The statements -/

/-- Settles O56: both filters write tagged rows, which FILTDEC gives back. -/
theorem filterRoundTrip : Obligations.FilterRoundTrip := by
  intro R W H C hC hR
  have hrows : R.length = H * (W * C) := by rw [hR, Nat.mul_comm W H, Nat.mul_assoc]
  refine ⟨fun t => ?_, fun score => ?_⟩
  · rw [filterUniform_eq, filterDecode_taggedRows _ hC hrows]
  · rw [filterAdaptive_eq, filterDecode_taggedRows _ hC hrows]

/-- Settles O57: the statement's tags and predictions are the model's; its rows above are those of `RowsBelow`. -/
theorem filterRowBytes : Obligations.FilterRowBytes := by
  unfold Obligations.FilterRowBytes
  intro tag prediction
  have htag : tag = Filter.tag := by funext t; cases t <;> rfl
  have hpred : prediction = rowPrediction := by funext t; cases t <;> rfl
  rw [htag, hpred]
  refine ⟨fun t r q bpp => ⟨length_filterRow t r q bpp, fun i hi => natAt_filterRow hi⟩,
    fun t f q bpp hbpp _ => ⟨length_unfilterRow t f q bpp, fun i hi => natAt_unfilterRow hbpp hi⟩,
    fun t R W H C _ => rfl, ?_,
    fun a b c => ⟨paeth_left, paeth_up, paeth_upperLeft⟩⟩
  intro n bpp rows out above S hn hlen hout
  have habove (y : Nat) : above y = (zeros n :: out).getD y [] := by cases y <;> rfl
  have hrows : RowsBelow bpp (zeros n) rows out := fun y t f hrow => habove y ▸ hout y t f hrow
  rw [habove]
  exact ⟨filterDecode_rows hn hlen hrows, fun b rest hb => filterDecode_rows_bad hn hlen hrows hb rest,
    fun t rest => filterDecode_rows_partial hn hlen hrows t⟩

end Sys2Proof.Machine
end

section
/-! The adaptive filter (42_filter_engine R246 to R248): its valid set is in increasing order of the tags, so the first
least score is the least type of that score. -/

namespace Sys2Proof.Machine

theorem argmin_mem {α : Type} {size : α → Nat} {as : List α} {a : α} (h : argmin size as = some a) : a ∈ as := by
  obtain ⟨pre, post, rfl, -⟩ := argmin_spec h
  exact List.mem_append_right pre List.mem_cons_self

/-- `argmin` of a list in increasing order of a key takes a least size, and of equal ones the least key (R25). -/
theorem argmin_least {α : Type} {size key : α → Nat} {as : List α} {a b : α}
    (hsorted : as.Pairwise fun x y => key x < key y) (h : argmin size as = some a) (hb : b ∈ as) :
    size a < size b ∨ (size a = size b ∧ key a ≤ key b) := by
  obtain ⟨pre, post, rfl, hpre, hpost⟩ := argmin_spec h
  have hafter := (List.pairwise_cons.1 (List.pairwise_append.1 hsorted).2.1).1
  obtain hb | hb := List.mem_append.1 hb
  · exact .inl (hpre b hb)
  · obtain rfl | hb := List.mem_cons.1 hb
    · exact .inr ⟨rfl, Nat.le_refl _⟩
    · have hlt := hafter b hb
      have hle := hpost b hb
      omega

/-- A filter type is valid on row `y` of an image `W` pixels wide (R246). -/
def ValidAt (y W : Nat) : Filter → Prop
  | .none => True
  | .sub => 1 < W
  | .up => 0 < y
  | .average => 1 < W ∧ 0 < y
  | .paeth => 0 < y

theorem mem_validFilters {y W : Nat} {t : Filter} : t ∈ validFilters y W ↔ ValidAt y W t := by
  cases t <;> simp [validFilters, ValidAt]

/-- The valid set is listed in increasing order of the tags (R246). -/
theorem validFilters_sorted (y W : Nat) : (validFilters y W).Pairwise fun t u => t.tag.toNat < u.tag.toNat := by
  have hpart (p : Prop) [Decidable p] (t : Filter) : (if p then [t] else []).Sublist [t] := by
    split
    · exact List.Sublist.refl _
    · exact List.nil_sublist _
  have hall : (validFilters y W).Sublist [.none, .sub, .up, .average, .paeth] :=
    ((((List.Sublist.refl [Filter.none]).append (hpart _ _)).append (hpart _ _)).append (hpart _ _)).append (hpart _ _)
  exact List.Pairwise.sublist hall (by decide)

/-- The valid set is never empty, so the best type is its `argmin` (R246, R248). -/
theorem argmin_validFilters (score : Bytes → Nat) (y W : Nat) (r q : Bytes) (bpp : Nat) :
    argmin (fun t => score (filterRow t r q bpp)) (validFilters y W) =
      some (bestFilter score (validFilters y W) r q bpp) := by
  rw [bestFilter]
  cases h : argmin (fun t => score (filterRow t r q bpp)) (validFilters y W) with
  | none => exact absurd (argmin_eq_none_iff.1 h) (List.cons_ne_nil _ _)
  | some t => rfl

theorem bestFilter_valid (score : Bytes → Nat) (y W : Nat) (r q : Bytes) (bpp : Nat) :
    ValidAt y W (bestFilter score (validFilters y W) r q bpp) :=
  mem_validFilters.1 (argmin_mem (argmin_validFilters score y W r q bpp))

/-- The best type is of least score among the valid types, and the least of them on equal scores (R248). -/
theorem bestFilter_least (score : Bytes → Nat) {y W : Nat} (r q : Bytes) (bpp : Nat) {u : Filter}
    (hu : ValidAt y W u) :
    let f (x : Filter) : Nat := score (filterRow x r q bpp)
    let t := bestFilter score (validFilters y W) r q bpp
    f t < f u ∨ (f t = f u ∧ t.tag.toNat ≤ u.tag.toNat) :=
  argmin_least (validFilters_sorted y W) (argmin_validFilters score y W r q bpp) (mem_validFilters.2 hu)

theorem zipIdx_map_range {α : Type} (f : Nat → α) (H : Nat) :
    ((List.range H).map f).zipIdx = (List.range H).map fun y => (f y, y) := by
  refine List.ext_getElem (by rw [List.length_zipIdx, List.length_map, List.length_map]) fun y _ _ => ?_
  rw [List.getElem_zipIdx, List.getElem_map, List.getElem_map, List.getElem_range, Nat.zero_add]

/-- Settles O58: the types are `adaptiveType` of each row. -/
theorem adaptiveChoice : Obligations.AdaptiveChoice := by
  intro score R W H C valid
  have hvalid (y : Nat) (t : Filter) : valid y t = ValidAt y W t := by cases t <;> rfl
  refine ⟨(List.range H).map (adaptiveType score R W C), by rw [List.length_map, List.length_range], ?_, ?_⟩
  · rw [zipIdx_map_range, List.flatMap_map]
    rfl
  · intro y t ht
    obtain ⟨hy, rfl⟩ := List.getElem?_eq_some_iff.1 ht
    rw [List.getElem_map, List.getElem_range, hvalid]
    exact ⟨bestFilter_valid score y W _ _ C, fun u hu => bestFilter_least score _ _ C (hvalid y u ▸ hu)⟩

end Sys2Proof.Machine
end

section
/-! The stage turns of a filter stream (42_filter_engine R250, R251, R253, log 5): each takes a tag and its row off the
stream as FILTDEC does, and once the stream is consumed or has failed the turns left change nothing. -/

namespace Sys2Proof.Machine

/-- A row tag is a row of the table, whose type it names, or it is invalid (R129, R251). -/
theorem rowTag_cases (b : Byte) :
    (∃ p ∈ rowTagRows, filterOf b = some p.1 ∧ decodeRowTag b = .instr p.2) ∨
      (filterOf b = none ∧ decodeRowTag b = .corrupt b) := by
  obtain hover | hle := Nat.lt_or_ge 4 b.toNat
  · exact .inr ⟨filterOf_bad hover, (decodeRowTag_cases b).elim (fun h => absurd h.1 (Nat.not_le.2 hover)) And.right⟩
  · obtain rfl | rfl | rfl | rfl | rfl : b = 0 ∨ b = 1 ∨ b = 2 ∨ b = 3 ∨ b = 4 := by bv_omega
    · exact .inl ⟨(.none, .filterTag0None), by decide, rfl, rfl⟩
    · exact .inl ⟨(.sub, .filterTag1Sub), by decide, rfl, rfl⟩
    · exact .inl ⟨(.up, .filterTag2Up), by decide, rfl, rfl⟩
    · exact .inl ⟨(.average, .filterTag3Average), by decide, rfl, rfl⟩
    · exact .inl ⟨(.paeth, .filterTag4Paeth), by decide, rfl, rfl⟩

/-- What a stage turn over a row tag does to internal storage (R250, R251, log 5): the tag and its row are taken off
the stream, or a bad tag fails it; nothing at the end of the stream or after a failure. -/
def rowTurn (P : Params) (wk : Work) : Work :=
  match wk.fail, wk.inp with
  | none, b :: rest =>
    match filterOf b with
    | some t => filterStage t P { wk with inp := rest }
    | none => { wk with fail := some .corruptPayload }
  | _, _ => wk

section
variable {P : Params} {wk : Work}

theorem rowTurn_row {b : Byte} {rest : Bytes} {t : Filter} (hf : wk.fail = none) (hin : wk.inp = b :: rest)
    (ht : filterOf b = some t) : rowTurn P wk = filterStage t P { wk with inp := rest } := by
  simp only [rowTurn, hf, hin, ht]

theorem rowTurn_bad {b : Byte} {rest : Bytes} (hf : wk.fail = none) (hin : wk.inp = b :: rest)
    (ht : filterOf b = none) : rowTurn P wk = { wk with fail := some .corruptPayload } := by
  simp only [rowTurn, hf, hin, ht]

theorem rowTurn_end (hin : wk.inp = []) : rowTurn P wk = wk := by
  unfold rowTurn
  split
  next h => rw [hin] at h; cases h
  next => rfl

theorem rowTurn_failed {k : ErrKind} (hf : wk.fail = some k) : rowTurn P wk = wk := by
  simp only [rowTurn, hf]

end

/-- A stage turn over an invalid tag fails the stream (R251, log 5). -/
theorem stageTurn_corrupt {s : State} {fmt : CodeFormat} {b t : Byte} {rest : Bytes} {c : Code}
    (hp : s.phase.isBusy = true) (hf : s.work.fail = none) (hin : s.work.inp = b :: rest)
    (hc : byteCode fmt b = some c) (hd : Sys2Proof.decode c = .corrupt t) :
    stageTurn fmt s = .next (stageFails .corruptPayload s) := by
  simp only [stageTurn, hp, hf, hin, hc, hd, rejectionKind]

/-- The stage turn of a row tag is `rowTurn` of internal storage (log 5). -/
theorem stageTurn_rowTag {s : State} {l : Latch} {tainted : Bool} (hp : s.phase = .busy l tainted) :
    stageTurn .rowTag s = .next { s with work := rowTurn s.cfg s.work } := by
  have hbusy : s.phase.isBusy = true := by rw [hp]; rfl
  cases hf : s.work.fail with
  | some k =>
    rw [rowTurn_failed hf]
    simp only [stageTurn, hbusy, hf]
  | none =>
    cases hin : s.work.inp with
    | nil =>
      rw [rowTurn_end hin]
      simp only [stageTurn, hbusy, hf, hin]
    | cons b rest =>
      obtain ⟨p, hrow, ht, hd⟩ | ⟨ht, hd⟩ := rowTag_cases b
      · rw [stageTurn_instr (c := .rowTag b) hbusy hf hin rfl hd, rowTagRows_stage p hrow, rowTurn_row hf hin ht]
        exact runStage_busy hp
      · rw [rowTurn_bad hf hin ht]
        exact stageTurn_corrupt (c := .rowTag b) hbusy hf hin rfl hd

theorem core_run_succ {M : Host.Core} {s t : M.State} (h : M.step s = .next t) (k : Nat) :
    M.run (k + 1) s = M.run k t := by
  simp only [Host.Core.run, h]

/-- The steps of a schedule of stage turns over row tags (log 5). -/
theorem run_rowTags {s : State} {l : Latch} {tainted : Bool} {k : Nat} (hp : s.phase = .busy l tainted)
    (hev : s.inputs = List.replicate k (.stage .rowTag)) :
    Host.Core.run Sys2Proof.core k s = .next { s with work := (rowTurn s.cfg)^[k] s.work, inputs := [] } := by
  induction k generalizing s with
  | zero => rw [← show s.inputs = [] from hev]; rfl
  | succ k ih =>
    have hstep : step s = .next
        { s with work := rowTurn s.cfg s.work, inputs := List.replicate k (.stage .rowTag) } := by
      rw [step_of_inputs (hev.trans List.replicate_succ)]
      exact stageTurn_rowTag hp
    exact (core_run_succ hstep k).trans (ih (s := { s with
      work := rowTurn s.cfg s.work, inputs := List.replicate k (.stage .rowTag) }) hp rfl)

/-- Internal storage holds the outcome of a filter stream: the bytes, the stream consumed, or its failure (log 5). -/
def Work.Holds (wk : Work) : Res Bytes → Prop
  | .ok X => wk.out = X ∧ wk.inp = [] ∧ wk.fail = none
  | .error k => wk.fail = some k

/-- Turns that are no fewer than the bytes of the stream add to the output what FILTDEC makes of it below the row
above (R250, R253). -/
theorem rowTurns_hold (P : Params) {wk : Work} {k : Nat} (hf : wk.fail = none) (hk : wk.inp.length ≤ k) :
    ((rowTurn P)^[k] wk).Holds
      ((filterDecodeBelow (wk.w * wk.c) wk.c wk.above wk.inp).map (wk.out ++ ·)) := by
  induction k generalizing wk with
  | zero =>
    have hin := List.eq_nil_of_length_eq_zero (Nat.le_zero.1 hk)
    rw [hin, filterDecodeBelow_nil]
    exact ⟨(List.append_nil _).symm, hin, hf⟩
  | succ k ih =>
    rw [Function.iterate_succ_apply]
    cases hin : wk.inp with
    | nil =>
      rw [rowTurn_end hin, ← hin]
      exact ih hf (by rw [hin]; exact Nat.zero_le k)
    | cons b rest =>
      rw [hin, List.length_cons] at hk
      cases ht : filterOf b with
      | none =>
        rw [rowTurn_bad hf hin ht, Function.iterate_fixed (rowTurn_failed rfl), filterDecodeBelow_bad ht]
        rfl
      | some t =>
        have hdrop : (rest.drop (wk.w * wk.c)).length ≤ k :=
          (List.drop_sublist _ _).length_le.trans (Nat.le_of_succ_le_succ hk)
        rw [rowTurn_row hf hin ht, filterDecodeBelow_row ht, res_map_append_append]
        exact ih (wk := filterStage t P { wk with inp := rest }) hf hdrop

/-- Settles O50: a turn for each byte is enough, from an empty output under a zero row. -/
theorem rowTagsRebuildStream : Obligations.RowTagsRebuildStream := by
  intro s l tainted hp hf hout habove hev
  refine ⟨_, run_rowTags hp hev, ?_⟩
  have hturns := rowTurns_hold s.cfg hf (Nat.le_refl s.work.inp.length)
  rw [hout, habove, res_map_nil_append, ← filterDecode_eq] at hturns
  cases hres : filterDecode s.work.inp (s.work.w * s.work.c) s.work.c with
  | ok X => rwa [hres] at hturns
  | error k => rwa [hres] at hturns

end Sys2Proof.Machine
end

section
/-! The entropy decoder's streams (43_entropy_stage R281 to R307): how far the bit reader gets in every part of a block,
so how many bytes an accepted stream has before its trailer; the streams that are rejected at their header or their
first block; and the payload lengths that follow for the methods of the catalog. -/

namespace Sys2Proof.Machine

/-- A sequence of stages succeeds when each of them does (00_scope R24). -/
theorem bind_eq_ok {α β : Type} {r : Res α} {f : α → Res β} {y : β} :
    (r >>= f) = .ok y ↔ ∃ x, r = .ok x ∧ f x = .ok y := by
  cases r <;> simp [bind, Except.bind]

/-! ## How far the reader gets -/

/-- The reader over `S` at bit `q` (R282). -/
def readerAt (S : Bytes) (q : Nat) : Reader := { rest := S.drop (q / 8), off := q % 8 }

/-- The reader `r` over `S` stands at bit `p` or later, and not past the end (R282). -/
def ReadPast (S : Bytes) (p : Nat) (r : Reader) : Prop := ∃ q, p ≤ q ∧ q ≤ 8 * S.length ∧ r = readerAt S q

theorem readPast_start (S : Bytes) : ReadPast S 0 { rest := S, off := 0 } :=
  ⟨0, Nat.le_refl 0, Nat.zero_le _, rfl⟩

theorem ReadPast.mono {S : Bytes} {p p' : Nat} {r : Reader} (h : ReadPast S p r) (hp : p' ≤ p) : ReadPast S p' r := by
  obtain ⟨q, hq, hend, rfl⟩ := h
  exact ⟨q, hp.trans hq, hend, rfl⟩

section
variable {S : Bytes} {p : Nat} {r r' : Reader}

theorem ReadPast.getbit {b : Nat} (hr : ReadPast S p r) (h : getbit r = .ok (b, r')) : ReadPast S (p + 1) r' := by
  obtain ⟨q, hq, hend, rfl⟩ := hr
  unfold Machine.getbit at h
  split at h
  case h_1 => cases h
  case h_2 c tl hrest =>
    have hlt : q / 8 < S.length := by
      by_contra hge
      rw [readerAt, List.drop_eq_nil_of_le (Nat.not_lt.1 hge)] at hrest
      cases hrest
    have htl : S.drop (q / 8 + 1) = tl := by rw [← List.tail_drop]; exact congrArg List.tail hrest
    obtain ⟨-, rfl⟩ := Prod.mk.inj (Except.ok.inj h)
    refine ⟨q + 1, by omega, by omega, ?_⟩
    by_cases hlast : q % 8 = 7
    · have hbyte : (q + 1) / 8 = q / 8 + 1 := by omega
      have hbit : (q + 1) % 8 = 0 := by omega
      simp only [readerAt, hlast, if_true, hbyte, hbit, htl]
    · have hbyte : (q + 1) / 8 = q / 8 := by omega
      have hbit : (q + 1) % 8 = q % 8 + 1 := by omega
      simp only [readerAt, hlast, if_false, hbyte, hbit]

theorem ReadPast.getbits {n v : Nat} (hr : ReadPast S p r) (h : getbits n r = .ok (v, r')) : ReadPast S (p + n) r' := by
  induction n generalizing p r v with
  | zero => cases h; exact hr
  | succ n ih =>
    obtain ⟨⟨b, r₁⟩, hb, h⟩ := bind_eq_ok.1 h
    obtain ⟨⟨u, r₂⟩, hu, h⟩ := bind_eq_ok.1 h
    cases h
    exact (ih (hr.getbit hb) hu).mono (by omega)

/-- The next byte boundary (R282); the bit before it is in `S`, so it is not past the end. -/
theorem ReadPast.align (hr : ReadPast S p r) :
    ∃ k, p ≤ 8 * k ∧ k ≤ S.length ∧ align r = { rest := S.drop k, off := 0 } := by
  obtain ⟨q, hq, hend, rfl⟩ := hr
  by_cases hoff : q % 8 = 0
  · exact ⟨q / 8, by omega, by omega, by simp only [Machine.align, readerAt, hoff, if_true]⟩
  · exact ⟨q / 8 + 1, by omega, by omega, by simp only [Machine.align, readerAt, hoff, if_false, List.tail_drop]⟩

theorem readPast_boundary {k : Nat} (hp : p ≤ 8 * k) (hk : k ≤ S.length) :
    ReadPast S p { rest := S.drop k, off := 0 } :=
  ⟨8 * k, hp, by omega, by simp [readerAt]⟩

/-! ## Huffman codes -/

theorem huffSymbol_some {T : HuffCode} {len code s : Nat} (h : huffSymbol T len code = some s) :
    ∃ e ∈ T, e.len = len := by
  obtain ⟨e, he, -⟩ := Option.map_eq_some_iff.1 h
  have hlen := List.find?_some he
  simp only [Bool.and_eq_true, beq_iff_eq] at hlen
  exact ⟨e, List.mem_of_find?_eq_some he, hlen.1⟩

/-- From `len` bits on, a code without words under `n` bits takes the rest of `n` bits at least (R283). -/
theorem ReadPast.huffLoop {T : HuffCode} {n : Nat} (hT : ∀ e ∈ T, n ≤ e.len) {fuel len code s : Nat}
    (hr : ReadPast S p r) (h : huffLoop T fuel len code r = .ok (s, r')) : ReadPast S (p + (n - len)) r' := by
  induction fuel generalizing len code p r with
  | zero => cases h
  | succ fuel ih =>
    rw [Machine.huffLoop] at h
    split at h
    next _ hs =>
      cases h
      obtain ⟨e, he, rfl⟩ := huffSymbol_some hs
      exact hr.mono (by have := hT e he; omega)
    next =>
      split at h
      · obtain ⟨⟨b, r₁⟩, hb, h⟩ := bind_eq_ok.1 h
        exact (ih (hr.getbit hb) h).mono (by omega)
      · cases h

theorem ReadPast.huffDecode {T : HuffCode} {n : Nat} (hT : ∀ e ∈ T, n ≤ e.len) {s : Nat}
    (hr : ReadPast S p r) (h : huffDecode T r = .ok (s, r')) : ReadPast S (p + n) r' :=
  hr.huffLoop hT h

/-- Every code word has the length of some symbol (R284). -/
theorem len_mem_of_mem_assignCodes {e : HuffEntry} {next lens : List Nat} {s : Nat}
    (h : e ∈ assignCodes next s lens) : e.len ∈ lens := by
  induction lens generalizing next s with
  | nil => cases h
  | cons l ls ih =>
    rw [assignCodes] at h
    split at h
    · exact List.mem_cons_of_mem l (ih h)
    · obtain rfl | h := List.mem_cons.1 h
      · exact List.mem_cons_self
      · exact List.mem_cons_of_mem l (ih h)

theorem huffBuild_lens {lens : List Nat} {kind : HuffKind} {T : HuffCode} (h : huffBuild lens kind = .ok T)
    {n : Nat} (hn : ∀ l ∈ lens, n ≤ l) : ∀ e ∈ T, n ≤ e.len := by
  intro e he
  unfold huffBuild at h
  split at h
  · cases h
  · dsimp only at h
    split at h
    · cases h
    · cases h
      exact hn _ (len_mem_of_mem_assignCodes he)

theorem fixedLitLens_ge : ∀ l ∈ fixedLitLens, 7 ≤ l := by
  intro l hl
  simp only [fixedLitLens, List.mem_append, List.mem_replicate] at hl
  omega

/-! ## Blocks -/

theorem ReadPast.storedBytes {limit : Option Nat} {n : Nat} {out x : Bytes} (hr : ReadPast S p r)
    (h : storedBytes limit n out r = .ok (x, r')) : ReadPast S p r' := by
  induction n generalizing out r with
  | zero => cases h; exact hr
  | succ n ih =>
    obtain ⟨⟨v, r₁⟩, hv, h⟩ := bind_eq_ok.1 h
    obtain ⟨out₁, -, h⟩ := bind_eq_ok.1 h
    exact ih ((hr.getbits hv).mono (Nat.le_add_right p 8)) h

/-- A stored block takes its length pair, 32 bits from a byte boundary (R293). -/
theorem ReadPast.storedBlock {limit : Option Nat} {out x : Bytes} (hr : ReadPast S p r)
    (h : storedBlock limit out r = .ok (x, r')) : ReadPast S (p + 32) r' := by
  obtain ⟨k, hp, hk, halign⟩ := hr.align
  obtain ⟨⟨len, r₁⟩, hlen, h⟩ := bind_eq_ok.1 h
  obtain ⟨⟨nlen, r₂⟩, hnlen, h⟩ := bind_eq_ok.1 h
  rw [halign] at hlen
  dsimp only at h
  split at h
  · cases h
  · exact (((readPast_boundary hp hk).getbits hlen).getbits hnlen).storedBytes h

/-- A block's codes are read up to the end-of-block symbol, so one word of the literal code at least (R294). -/
theorem ReadPast.inflateBlock {limit : Option Nat} {LT DT : HuffCode} {n : Nat} (hLT : ∀ e ∈ LT, n ≤ e.len)
    {fuel : Nat} {out x : Bytes} (hr : ReadPast S p r) (h : inflateBlock limit LT DT fuel out r = .ok (x, r')) :
    ReadPast S (p + n) r' := by
  induction fuel generalizing out p r with
  | zero => cases h
  | succ fuel ih =>
    obtain ⟨⟨sym, r₁⟩, hsym, h⟩ := bind_eq_ok.1 h
    have hr₁ := hr.huffDecode hLT hsym
    dsimp only at h
    split at h
    · obtain ⟨out₁, -, h⟩ := bind_eq_ok.1 h
      exact (ih hr₁ h).mono (Nat.le_add_right _ n)
    split at h
    · cases h; exact hr₁
    split at h
    · cases h
    obtain ⟨⟨e, r₂⟩, he, h⟩ := bind_eq_ok.1 h
    obtain ⟨⟨ds, r₃⟩, hds, h⟩ := bind_eq_ok.1 h
    dsimp only at h
    split at h
    · cases h
    obtain ⟨⟨de, r₄⟩, hde, h⟩ := bind_eq_ok.1 h
    dsimp only at h
    split at h
    · cases h
    obtain ⟨out₁, -, h⟩ := bind_eq_ok.1 h
    have hr₃ := (hr₁.getbits he).huffDecode (n := 0) (fun _ _ => Nat.zero_le _) hds
    exact (ih (hr₃.getbits hde) h).mono (by omega)

theorem ReadPast.readClLens {ks cl cl' : List Nat} (hr : ReadPast S p r) (h : readClLens ks cl r = .ok (cl', r')) :
    ReadPast S p r' := by
  induction ks generalizing cl r with
  | nil => cases h; exact hr
  | cons k ks ih =>
    obtain ⟨⟨v, r₁⟩, hv, h⟩ := bind_eq_ok.1 h
    exact ih ((hr.getbits hv).mono (Nat.le_add_right p 3)) h

theorem ReadPast.clRepeat {lens : List Nat} {sym rep val : Nat} (hr : ReadPast S p r)
    (h : clRepeat lens sym r = .ok (rep, val, r')) : ReadPast S p r' := by
  unfold Machine.clRepeat at h
  split at h
  · cases h; exact hr
  split at h
  · split at h
    · cases h
    · obtain ⟨⟨v, r₁⟩, hv, h⟩ := bind_eq_ok.1 h
      cases h
      exact (hr.getbits hv).mono (Nat.le_add_right p _)
  split at h <;>
  · obtain ⟨⟨v, r₁⟩, hv, h⟩ := bind_eq_ok.1 h
    cases h
    exact (hr.getbits hv).mono (Nat.le_add_right p _)

theorem ReadPast.readLens {CLT : HuffCode} {total fuel : Nat} {lens lens' : List Nat} (hr : ReadPast S p r)
    (h : readLens CLT total fuel lens r = .ok (lens', r')) : ReadPast S p r' := by
  induction fuel generalizing lens r with
  | zero =>
    rw [Machine.readLens] at h
    split at h
    · cases h; exact hr
    · cases h
  | succ fuel ih =>
    rw [Machine.readLens] at h
    split at h
    · cases h; exact hr
    obtain ⟨⟨sym, r₁⟩, hsym, h⟩ := bind_eq_ok.1 h
    obtain ⟨⟨rep, val, r₂⟩, hrep, h⟩ := bind_eq_ok.1 h
    dsimp only at h
    split at h
    · cases h
    · exact ih ((hr.huffDecode (n := 0) (fun _ _ => Nat.zero_le _) hsym).clRepeat hrep) h

/-- A dynamic block takes its three counts, 14 bits (R295). -/
theorem ReadPast.dynTables {LT DT : HuffCode} (hr : ReadPast S p r) (h : dynTables r = .ok (LT, DT, r')) :
    ReadPast S (p + 14) r' := by
  obtain ⟨⟨h1, r₁⟩, hh1, h⟩ := bind_eq_ok.1 h
  obtain ⟨⟨h2, r₂⟩, hh2, h⟩ := bind_eq_ok.1 h
  obtain ⟨⟨h3, r₃⟩, hh3, h⟩ := bind_eq_ok.1 h
  dsimp only at h
  split at h
  · cases h
  obtain ⟨⟨cl, r₄⟩, hcl, h⟩ := bind_eq_ok.1 h
  obtain ⟨CLT, -, h⟩ := bind_eq_ok.1 h
  obtain ⟨⟨lens, r₅⟩, hlens, h⟩ := bind_eq_ok.1 h
  dsimp only at h
  split at h
  · cases h
  obtain ⟨LT', -, h⟩ := bind_eq_ok.1 h
  obtain ⟨DT', -, h⟩ := bind_eq_ok.1 h
  cases h
  exact ((((hr.getbits hh1).getbits hh2).getbits hh3).readClLens hcl).readLens hlens

/-- After its header every block takes 7 bits at least: the shortest is a fixed block of the end-of-block code alone
(R285, R290). -/
theorem ReadPast.inflateOne {limit : Option Nat} {btype fuel : Nat} {out x : Bytes} (hr : ReadPast S p r)
    (h : inflateOne limit btype fuel out r = .ok (x, r')) : ReadPast S (p + 7) r' := by
  unfold Machine.inflateOne at h
  split at h
  · exact (hr.storedBlock h).mono (by omega)
  split at h
  · obtain ⟨LT, hLT, h⟩ := bind_eq_ok.1 h
    obtain ⟨DT, -, h⟩ := bind_eq_ok.1 h
    exact hr.inflateBlock (huffBuild_lens hLT fixedLitLens_ge) h
  split at h
  · obtain ⟨⟨LT, DT, r₁⟩, htables, h⟩ := bind_eq_ok.1 h
    exact ((hr.dynTables htables).inflateBlock (n := 0) (fun _ _ => Nat.zero_le _) h).mono (by omega)
  · cases h

/-- The first block takes 10 bits at least (R292). -/
theorem ReadPast.inflateBlocks {limit : Option Nat} {bits fuel : Nat} {out x : Bytes} (hr : ReadPast S p r)
    (h : inflateBlocks limit bits fuel out r = .ok (x, r')) : ReadPast S (p + 10) r' := by
  induction fuel generalizing out p r with
  | zero => cases h
  | succ fuel ih =>
    obtain ⟨⟨final, r₁⟩, hfinal, h⟩ := bind_eq_ok.1 h
    obtain ⟨⟨btype, r₂⟩, hbtype, h⟩ := bind_eq_ok.1 h
    obtain ⟨⟨out₁, r₃⟩, hone, h⟩ := bind_eq_ok.1 h
    have hr₃ : ReadPast S (p + 10) r₃ := ((hr.getbits hfinal).getbits hbtype).inflateOne hone
    dsimp only at h
    split at h
    · cases h; exact hr₃
    · exact (ih hr₃ h).mono (Nat.le_add_right _ 10)

end

/-! ## Accepted streams -/

@[simp] theorem u32be_length (v : Nat) : (u32be v).length = 4 := rfl

theorem u32be_of_bytes (b0 b1 b2 b3 : Byte) :
    u32be (b0.toNat * 2 ^ 24 + b1.toNat * 2 ^ 16 + b2.toNat * 2 ^ 8 + b3.toNat) = [b0, b1, b2, b3] := by
  have h0 := b0.isLt
  have h1 := b1.isLt
  have h2 := b2.isLt
  have h3 := b3.isLt
  simp only [u32be, byteOf, List.cons.injEq, and_true, ← BitVec.toNat_inj, BitVec.toNat_ofNat]
  omega

theorem eq_four_cons {S : Bytes} (h : ¬S.length < 4) : ∃ b0 b1 b2 b3 tl, S = b0 :: b1 :: b2 :: b3 :: tl := by
  match S, h with
  | b0 :: b1 :: b2 :: b3 :: tl, _ => exact ⟨b0, b1, b2, b3, tl, rfl⟩
  | [], h | [_], h | [_, _], h | [_, _, _], h => exact absurd (by simp) h

/-- The trailer that is accepted is the Adler-32 of the output, most significant byte first (R303). -/
theorem ztrailer_ok {r : Reader} {out : Bytes} {u : Unit} (h : ztrailer r out = .ok u) :
    ∃ tl, r.rest = u32be (adler32 out) ++ tl := by
  unfold ztrailer at h
  split at h
  · cases h
  next hlen =>
    obtain ⟨b0, b1, b2, b3, tl, hrest⟩ := eq_four_cons hlen
    simp only [hrest, natAt, List.getD_cons_zero, List.getD_cons_succ] at h
    split at h
    · cases h
    next hsum => exact ⟨tl, by rw [← not_not.1 hsum, u32be_of_bytes, hrest]; rfl⟩

/-- An accepted stream: two header bytes, two bytes of blocks at least, and the trailer (R290, R291, R303, R307). -/
theorem zdecode_ok {limit : Option Nat} {S x : Bytes} (h : zdecode limit S = .ok x) :
    ∃ blocks rest : Bytes, 4 ≤ blocks.length ∧ S = blocks ++ u32be (adler32 x) ++ rest := by
  obtain ⟨_, -, h⟩ := bind_eq_ok.1 h
  obtain ⟨⟨out, r⟩, hblocks, h⟩ := bind_eq_ok.1 h
  obtain ⟨_, htrailer, h⟩ := bind_eq_ok.1 h
  cases h
  obtain ⟨k, hp, hk, halign⟩ := ((readPast_start (S.drop 2)).inflateBlocks hblocks).align
  rw [halign] at htrailer
  obtain ⟨tl, htl⟩ := ztrailer_ok htrailer
  refine ⟨S.take (2 + k), tl, ?_, ?_⟩
  · rw [List.length_drop] at hk
    rw [List.length_take]
    omega
  · rw [List.append_assoc, ← htl, List.drop_drop, List.take_append_drop]

theorem zdecode_ok_length {limit : Option Nat} {S x : Bytes} (h : zdecode limit S = .ok x) : 8 ≤ S.length := by
  obtain ⟨blocks, rest, hlen, rfl⟩ := zdecode_ok h
  simp only [List.length_append, u32be_length]
  omega

/-! ## Rejected streams -/

/-- The header bytes that `ZHEADER` rejects (R291). -/
def BadHeader (cmf flg : Byte) : Prop :=
  (cmf.toNat * 256 + flg.toNat) % 31 ≠ 0 ∨ cmf.toNat % 16 ≠ 8 ∨ 7 < cmf.toNat / 16 ∨ flg.getLsbD 5 = true

theorem getLsbD_five_iff (b : Byte) : b.getLsbD 5 = true ↔ b.toNat / 32 % 2 = 1 := by
  rw [← Bool.toNat_eq_one, BitVec.getLsbD, Nat.toNat_testBit]

theorem zheader_short {S : Bytes} (h : S.length < 2) : zheader S = .error .truncatedPayload := if_pos h

theorem zheader_bad {cmf flg : Byte} (tl : Bytes) (h : BadHeader cmf flg) :
    zheader (cmf :: flg :: tl) = .error .corruptPayload := by
  have hlen : ¬(cmf :: flg :: tl).length < 2 := by simp
  simp only [zheader, natAt, List.getD_cons_zero, List.getD_cons_succ, if_neg hlen]
  split
  · rfl
  next hcheck =>
    split
    · rfl
    next hmethod =>
      split
      · rfl
      next hwindow =>
        have hdict : flg.getLsbD 5 = true := ((h.resolve_left hcheck).resolve_left hmethod).resolve_left hwindow
        exact if_pos ((getLsbD_five_iff flg).1 hdict)

theorem zheader_good {cmf flg : Byte} (tl : Bytes) (h : ¬BadHeader cmf flg) : zheader (cmf :: flg :: tl) = .ok () := by
  have hlen : ¬(cmf :: flg :: tl).length < 2 := by simp
  simp only [BadHeader, not_or, not_not, getLsbD_five_iff] at h
  obtain ⟨hcheck, hmethod, hwindow, hdict⟩ := h
  simp only [zheader, natAt, List.getD_cons_zero, List.getD_cons_succ, if_neg hlen, hcheck, hmethod, hwindow, hdict,
    ne_eq, not_true_eq_false, if_false]

theorem zdecode_header_error {limit : Option Nat} {S : Bytes} {k : ErrKind} (h : zheader S = .error k) :
    zdecode limit S = .error k := by
  rw [zdecode, h]; rfl

/-- A block at a byte boundary: BFINAL is bit 0 of its first byte, BTYPE bits 2:1, the rest starts at bit 3 (R292). -/
theorem inflateBlocks_header (limit : Option Nat) (bits fuel : Nat) (out : Bytes) (b : Byte) (rest : Bytes) :
    inflateBlocks limit bits (fuel + 1) out { rest := b :: rest, off := 0 } =
      inflateOne limit (b.toNat / 2 % 4) bits out { rest := b :: rest, off := 3 } >>= fun p =>
        if b.toNat % 2 = 1 then .ok p else inflateBlocks limit bits fuel p.1 p.2 := by
  have hbit (i : Nat) : (b.getLsbD i).toNat = b.toNat / 2 ^ i % 2 := by rw [BitVec.getLsbD, Nat.toNat_testBit]
  have hfinal : getbits 1 { rest := b :: rest, off := 0 } = .ok (b.toNat % 2, { rest := b :: rest, off := 1 }) := by
    simp [getbits, getbit, bind, Except.bind, hbit, -BitVec.getLsbD_eq_getElem]
  have htype : getbits 2 { rest := b :: rest, off := 1 } = .ok (b.toNat / 2 % 4, { rest := b :: rest, off := 3 }) := by
    have hpair : b.toNat / 2 % 2 + 2 * (b.toNat / 4 % 2) = b.toNat / 2 % 4 := by omega
    simp [getbits, getbit, bind, Except.bind, hbit, hpair, -BitVec.getLsbD_eq_getElem]
  simp only [inflateBlocks, hfinal, htype, bind, Except.bind]

theorem zdecode_no_block {limit : Option Nat} {cmf flg : Byte} (h : ¬BadHeader cmf flg) :
    zdecode limit [cmf, flg] = .error .truncatedPayload := by
  rw [zdecode, zheader_good [] h]; rfl

/-- A stream whose first block fails. -/
theorem zdecode_block_error {limit : Option Nat} {cmf flg b : Byte} {rest : Bytes} {k : ErrKind}
    (h : ¬BadHeader cmf flg)
    (hk : ∀ bits, inflateOne limit (b.toNat / 2 % 4) bits [] { rest := b :: rest, off := 3 } = .error k) :
    zdecode limit (cmf :: flg :: b :: rest) = .error k := by
  rw [zdecode, zheader_good _ h]
  simp only [List.drop_succ_cons, List.drop_zero, inflateBlocks_header, hk]
  rfl

theorem inflateOne_reserved (limit : Option Nat) (bits : Nat) (out : Bytes) (r : Reader) :
    inflateOne limit 3 bits out r = .error .corruptPayload := rfl

theorem inflateOne_bad_lengths {l0 l1 n0 n1 : Byte}
    (h : l0.toNat + 256 * l1.toNat + (n0.toNat + 256 * n1.toNat) ≠ 0xFFFF) (limit : Option Nat) (bits : Nat)
    (out : Bytes) (b : Byte) (data : Bytes) :
    inflateOne limit 0 bits out { rest := b :: l0 :: l1 :: n0 :: n1 :: data, off := 3 } = .error .corruptPayload := by
  have halign : align { rest := b :: l0 :: l1 :: n0 :: n1 :: data, off := 3 } =
      { rest := l0 :: l1 :: n0 :: n1 :: data, off := 0 } := rfl
  simp only [inflateOne, storedBlock, halign, getbits_two_bytes, bind, Except.bind, if_true, if_pos h]

/-! ## Payloads of the methods -/

theorem entropyEnc_length (P : Params) (st : Strategy) (x : Bytes) : 8 ≤ (P.entropyEnc st x).length := by
  unfold Params.entropyEnc
  split
  · exact zdecode_ok_length ((Config.platformEncoder _).inverse st x)
  · exact zdecode_ok_length (zdecode_refStored st x)

/-- Whenever `r` succeeds, its bytes are `n` at least. -/
def AtLeast (n : Nat) (r : Res Bytes) : Prop := ∀ Y, r = .ok Y → n ≤ Y.length

theorem AtLeast.bind {α : Type} {n : Nat} {r : Res α} {f : α → Res Bytes} (h : ∀ x, r = .ok x → AtLeast n (f x)) :
    AtLeast n (r >>= f) := by
  intro Y hY
  obtain ⟨x, hx, hf⟩ := bind_eq_ok.1 hY
  exact h x hx Y hf

theorem zenc_atLeast (P : Params) (st : Strategy) (input x : Bytes) : AtLeast 8 (zenc P st input x) := by
  intro Y hY
  obtain heq | ⟨-, heq⟩ := hold_cases P (.pipeline (.entropy st)) input (.ok (P.entropyEnc st x)) <;>
    cases heq.symm.trans hY
  exact entropyEnc_length P st x

/-- An entropy pass over a stage's output. -/
theorem stage_zenc_atLeast (P : Params) (st : Strategy) (input : Bytes) (r : Res Bytes) :
    AtLeast 8 (r >>= zenc P st input) := .bind fun x _ => zenc_atLeast P st input x

theorem bestOf_mem {α : Type} {trials : List (α × Res Bytes)} {c : α × Bytes} (h : bestOf trials = .ok c) :
    (c.1, .ok c.2) ∈ trials := by
  unfold bestOf at h
  split at h
  next hc =>
    cases h
    exact mem_successes.1 (argmin_mem hc)
  · cases h

/-- The trial that is chosen is one of the trials (R25). -/
theorem bestOf_length {α : Type} {n : Nat} {trials : List (α × Res Bytes)} (ht : ∀ t ∈ trials, AtLeast n t.2)
    {c : α × Bytes} (h : bestOf trials = .ok c) : n ≤ c.2.length := ht _ (bestOf_mem h) _ rfl

theorem bestOf_atLeast {α : Type} {n : Nat} {trials : List (α × Res Bytes)} (ht : ∀ t ∈ trials, AtLeast n t.2) :
    AtLeast n (bestOf trials >>= fun best => .ok best.2) :=
  .bind fun _ hc _ hY => Except.ok.inj hY ▸ bestOf_length ht hc

/-- Method 4's payload is its tag byte and an entropy stream (R345). -/
theorem enc4_atLeast (P : Params) (R : Bytes) (W C : Nat) : AtLeast 9 (enc4 P R W C) := by
  refine .bind fun c hc Y hY => ?_
  have hlen : 8 ≤ c.2.length := by
    refine bestOf_length (fun t ht => ?_) hc
    simp only [List.mem_cons, List.not_mem_nil, or_false] at ht
    obtain rfl | rfl | rfl := ht <;> exact stage_zenc_atLeast P _ R _
  cases hY
  exact Nat.succ_le_succ hlen

theorem enc3_atLeast (P : Params) (R : Bytes) : AtLeast 8 (enc3 P R) := by
  refine bestOf_atLeast fun t ht => ?_
  simp only [List.mem_cons, List.not_mem_nil, or_false] at ht
  obtain rfl | rfl | rfl := ht <;> exact zenc_atLeast P _ R R

theorem enc7_atLeast (P : Params) (R : Bytes) (W H C : Nat) : AtLeast 8 (enc7 P R W H C) := by
  refine bestOf_atLeast fun t ht => ?_
  simp only [List.mem_cons, List.not_mem_nil, or_false] at ht
  obtain rfl | rfl | rfl | rfl | rfl := ht <;> exact stage_zenc_atLeast P _ R _

/-- Every method but the identity ends in an entropy pass (R341 to R351). -/
theorem encMethod_atLeast (P : Params) {m : Nat} (hm : m ≠ 0) (R : Bytes) (W H C : Nat) :
    AtLeast 8 (encMethod P m R W H C) := by
  unfold encMethod
  split
  case h_1 => exact absurd rfl hm
  case h_3 => exact zenc_atLeast P .default R R
  case h_4 => exact enc3_atLeast P R
  case h_5 => exact fun Y hY => (Nat.le_succ 8).trans (enc4_atLeast P R W C Y hY)
  case h_6 | h_9 => exact .bind fun _ _ => stage_zenc_atLeast P .default R _
  case h_8 => exact enc7_atLeast P R W H C
  case h_12 => intro Y hY; cases hY
  all_goals exact stage_zenc_atLeast P .default R _

/-- Settles O35: the reader has passed 10 bits after the header, so two bytes, before the trailer is read. -/
theorem shortestStream : Obligations.ShortestStream := by
  refine ⟨fun limit S x => zdecode_ok_length, entropyEnc_length, ?_, ?_, ?_, fun limit S x => zdecode_ok⟩
  · rintro P m R Y W H C hm hY
    refine ⟨encMethod_atLeast P hm R W H C Y hY, ?_⟩
    rintro rfl
    exact enc4_atLeast P R W C Y hY
  · exact fun limit S h => zdecode_header_error (zheader_short h)
  · intro limit cmf flg tl
    refine ⟨fun hbad => zdecode_header_error (zheader_bad tl hbad), ?_, ?_⟩
    · rintro hgood rfl
      exact zdecode_no_block hgood
    · rintro hgood b rest rfl
      refine ⟨fun htype => zdecode_block_error hgood fun bits => ?_, ?_⟩
      · rw [htype]
        exact inflateOne_reserved limit bits [] _
      · rintro htype l0 l1 n0 n1 data rfl hpair
        refine zdecode_block_error hgood fun bits => ?_
        rw [htype]
        exact inflateOne_bad_lengths hpair limit bits [] b data

end Sys2Proof.Machine
end

section
/-! How encode pipelines fail, and what a FLAGS byte runs (44_method_catalog R340, R353, R354): a stage that cannot fail
of itself fails only under a finite SCRATCH_BYTES, and sequences and trials of such stages keep that; a small image
undercuts every entropy stream; and each FLAGS row dispatches to its method's inverse pipeline. -/

namespace Sys2Proof.Machine

/-! ## Failures of the encode pipelines -/

/-- `r` fails, if at all, with RESOURCE_LIMIT under a finite SCRATCH_BYTES (R353). -/
def FailsOnlyBounded {α : Type} (P : Params) (r : Res α) : Prop :=
  ∀ k, r = .error k → k = .resourceLimit ∧ P.scratch ≠ none

theorem FailsOnlyBounded.ok {α : Type} (P : Params) (x : α) : FailsOnlyBounded P (.ok x) := fun _ h => nomatch h

theorem FailsOnlyBounded.bind {α β : Type} {P : Params} {r : Res α} {f : α → Res β} (hr : FailsOnlyBounded P r)
    (hf : ∀ x, FailsOnlyBounded P (f x)) : FailsOnlyBounded P (r >>= f) := by
  intro k h
  obtain hfirst | ⟨x, -, hrest⟩ := bind_eq_error h
  · exact hr k hfirst
  · exact hf x k hrest

theorem hold_failsOnlyBounded (P : Params) (site : Site) (input x : Bytes) :
    FailsOnlyBounded P (hold P site input (.ok x)) := by
  intro k h
  refine ⟨hold_ok_error h, fun hscratch => ?_⟩
  rw [hold_unbounded hscratch] at h
  cases h

theorem zenc_failsOnlyBounded (P : Params) (st : Strategy) (input x : Bytes) :
    FailsOnlyBounded P (zenc P st input x) := hold_failsOnlyBounded P _ input _

/-- A stage that cannot fail of itself, then an entropy pass: the shape of most pipelines and trials. -/
theorem hold_zenc_failsOnlyBounded (P : Params) (site : Site) (st : Strategy) (input x : Bytes) :
    FailsOnlyBounded P (hold P site input (.ok x) >>= zenc P st input) :=
  (hold_failsOnlyBounded P site input x).bind fun y => zenc_failsOnlyBounded P st input y

/-- The failure that is reported for a trial with no success is one of its candidates' (R344). -/
theorem firstKind_mem {α β : Type} {trials : List (α × Res β)} (hne : trials ≠ []) (hs : successes trials = []) :
    ∃ a, (a, .error (firstKind trials)) ∈ trials := by
  match trials with
  | [] => exact absurd rfl hne
  | (a, .error k) :: rest => exact ⟨a, List.mem_cons_self⟩
  | (a, .ok x) :: rest => cases hs

theorem bestOf_failsOnlyBounded {α : Type} {P : Params} {trials : List (α × Res Bytes)} (hne : trials ≠ [])
    (ht : ∀ t ∈ trials, FailsOnlyBounded P t.2) : FailsOnlyBounded P (bestOf trials) := by
  intro k h
  unfold bestOf at h
  split at h
  · cases h
  next hnone =>
    cases h
    obtain ⟨a, hmem⟩ := firstKind_mem hne (argmin_eq_none_iff.1 hnone)
    exact ht _ hmem _ rfl

theorem enc3_failsOnlyBounded (P : Params) (R : Bytes) : FailsOnlyBounded P (enc3 P R) := by
  refine (bestOf_failsOnlyBounded (List.cons_ne_nil _ _) fun t ht => ?_).bind fun best => .ok P best.2
  simp only [List.mem_cons, List.not_mem_nil, or_false] at ht
  obtain rfl | rfl | rfl := ht <;> exact zenc_failsOnlyBounded P _ R R

theorem enc4_failsOnlyBounded (P : Params) (R : Bytes) (W C : Nat) : FailsOnlyBounded P (enc4 P R W C) := by
  refine (bestOf_failsOnlyBounded (List.cons_ne_nil _ _) fun t ht => ?_).bind fun best => .ok P _
  simp only [List.mem_cons, List.not_mem_nil, or_false] at ht
  obtain rfl | rfl | rfl := ht <;> exact hold_zenc_failsOnlyBounded P _ _ R _

theorem enc7_failsOnlyBounded (P : Params) (R : Bytes) (W H C : Nat) : FailsOnlyBounded P (enc7 P R W H C) := by
  refine (bestOf_failsOnlyBounded (List.cons_ne_nil _ _) fun t ht => ?_).bind fun best => .ok P best.2
  simp only [List.mem_cons, List.not_mem_nil, or_false] at ht
  obtain rfl | rfl | rfl | rfl | rfl := ht <;> exact hold_zenc_failsOnlyBounded P _ _ R _

/-- PAL fails of itself; past it, method 5 fails as the others do (R346). -/
theorem enc5_error {P : Params} {R : Bytes} {C : Nat} {k : ErrKind} (h : enc5 P R C = .error k) :
    (k = .paletteOverflow ∧ 256 < distinct R C) ∨ (k = .resourceLimit ∧ P.scratch ≠ none) := by
  obtain hpal | ⟨t, -, hrest⟩ := bind_eq_error h
  · by_cases hd : 256 < distinct R C
    · cases (pal_overflow hd).symm.trans hpal
      exact .inl ⟨rfl, hd⟩
    · cases (pal_ok (Nat.not_lt.1 hd)).symm.trans hpal
  · exact .inr (hold_zenc_failsOnlyBounded P _ _ R t k hrest)

/-- Every method id but the palette's (R353). -/
theorem encMethod_failsOnlyBounded (P : Params) {m : Nat} (hm : m ≤ 10) (hpal : m ≠ 5) (R : Bytes) (W H C : Nat) :
    FailsOnlyBounded P (encMethod P m R W H C) := by
  unfold encMethod
  split
  case h_1 => exact .ok P R
  case h_2 | h_7 => exact hold_zenc_failsOnlyBounded P _ _ R _
  case h_3 => exact zenc_failsOnlyBounded P .default R R
  case h_4 => exact enc3_failsOnlyBounded P R
  case h_5 => exact enc4_failsOnlyBounded P R W C
  case h_6 => exact absurd rfl hpal
  case h_8 => exact enc7_failsOnlyBounded P R W H C
  case h_9 =>
    exact (hold_failsOnlyBounded P _ R _).bind fun _ => hold_zenc_failsOnlyBounded P _ _ R _
  case h_10 => exact (hold_zenc_failsOnlyBounded P _ _ R _).bind fun p6 => zenc_failsOnlyBounded P _ R p6
  case h_11 => exact (enc7_failsOnlyBounded P R W H C).bind fun p7 => zenc_failsOnlyBounded P _ R p7
  case h_12 => simp only [imp_false] at *; omega

/-- Settles O34: PAL is the one stage that fails of itself, and only method 5 runs it. -/
theorem encodeFailures : Obligations.EncodeFailures := by
  intro P m R W H C hm
  refine ⟨rfl, enc5_overflow_iff.2, fun k hk => ?_⟩
  by_cases hpal : m = 5
  · subst hpal
    obtain ⟨hkind, hd⟩ | ⟨hkind, hscratch⟩ := enc5_error hk
    · exact .inl ⟨rfl, hkind, hd⟩
    · exact .inr ⟨by decide, hkind, hscratch⟩
  · refine .inr ⟨?_, encMethod_failsOnlyBounded P hm hpal R W H C k hk⟩
    rintro rfl
    cases hk

/-! ## Small images -/

/-- Settles O36: every other payload has 8 bytes or more, so it is no shorter than method 0's, which wins the tie. -/
theorem smallImagesChooseIdentity : Obligations.SmallImagesChooseIdentity := by
  intro P R W H C hsmall
  obtain ⟨m, Y, hchoice, -, hY, hleast⟩ := select_choice P R W H C
  have hzero : m = 0 := by
    by_contra hm
    have hlong : 8 ≤ Y.length := encMethod_atLeast P hm R W H C Y hY
    have hidentity := hleast 0 R rfl
    omega
  subst hzero
  cases hY
  exact hchoice

/-! ## The FLAGS byte -/

/-- Each FLAGS row dispatches to its own id's inverse pipeline (R340). -/
theorem methodRows_stage (fl : Flags) : ∀ p ∈ methodRows fl, ∀ s,
    exec p.2 s = runStage (dispatchMethod fl fun P Y W C => decMethod P p.1 Y W C) s := by
  simp only [methodRows, List.forall_mem_cons]
  exact ⟨fun _ => rfl, fun _ => rfl, fun _ => rfl, fun _ => rfl, fun _ => rfl, fun _ => rfl, fun _ => rfl,
    fun _ => rfl, fun _ => rfl, fun _ => rfl, fun _ => rfl, List.forall_mem_nil _⟩

/-- What a dispatch leaves unchanged in internal storage, and the channel count it sets (R121). -/
theorem dispatchMethod_frame (fl : Flags) (dec : Params → Bytes → Nat → Nat → Res Bytes) (P : Params) (wk : Work) :
    (dispatchMethod fl dec P wk).inp = wk.inp ∧ (dispatchMethod fl dec P wk).above = wk.above ∧
      (dispatchMethod fl dec P wk).w = wk.w ∧ (dispatchMethod fl dec P wk).h = wk.h ∧
      (dispatchMethod fl dec P wk).c = flagsChannels fl := by
  unfold dispatchMethod
  split
  · exact ⟨rfl, rfl, rfl, rfl, rfl⟩
  · split <;> exact ⟨rfl, rfl, rfl, rfl, rfl⟩

section
variable {fl : Flags} {dec : Params → Bytes → Nat → Nat → Res Bytes} {P : Params} {wk : Work}

/-- An image of no pixels has its payload left unexamined (46_decoder R414). -/
theorem dispatchMethod_empty (h : wk.w * wk.h = 0) :
    dispatchMethod fl dec P wk = { wk with c := flagsChannels fl, out := [] } := if_pos h

theorem dispatchMethod_ok {X : Bytes} (h : wk.w * wk.h ≠ 0) (hX : dec P wk.inp wk.w (flagsChannels fl) = .ok X) :
    dispatchMethod fl dec P wk = { wk with c := flagsChannels fl, out := X } := by
  simp only [dispatchMethod, if_neg h, hX]

theorem dispatchMethod_error {k : ErrKind} (h : wk.w * wk.h ≠ 0)
    (hk : dec P wk.inp wk.w (flagsChannels fl) = .error k) :
    dispatchMethod fl dec P wk = { wk with c := flagsChannels fl, fail := some k } := by
  simp only [dispatchMethod, if_neg h, hk]

end

/-- Settles O48: each row's dispatch on the work state, by the outcome of its pipeline. -/
theorem methodCodes : Obligations.MethodCodes := by
  intro fl p hrow s l tainted hp C
  have hexec := (methodRows_stage fl p hrow s).trans (runStage_busy hp)
  obtain ⟨hinp, habove, hw, hh, hc⟩ := dispatchMethod_frame fl (fun P Y W C => decMethod P p.1 Y W C) s.cfg s.work
  refine ⟨_, hexec, hinp, habove, hw, hh, hc, fun hempty => ?_, fun hpixels => ?_⟩
  · rw [dispatchMethod_empty hempty]
    exact ⟨rfl, rfl⟩
  · cases hdec : decMethod s.cfg p.1 s.work.inp s.work.w C with
    | ok X =>
      rw [dispatchMethod_ok hpixels hdec]
      exact ⟨rfl, rfl⟩
    | error k =>
      rw [dispatchMethod_error hpixels hdec]
      exact ⟨rfl, rfl⟩

end Sys2Proof.Machine
end

section
/-! The method catalog without SCRATCH_BYTES (44_method_catalog R341 to R352): what each pipeline composes, a trial as
the first of the shortest streams, and each id's round trip as the inverse laws of its stages in sequence. -/

namespace Sys2Proof.Machine

/-! ## Trials -/

/-- `X` is the stream at index `k` of a trial: a shortest one, and the first of those (R25). -/
def Shortest (trials : List Bytes) (k : Nat) (X : Bytes) : Prop :=
  trials[k]? = some X ∧ ∀ j X', trials[j]? = some X' → X.length < X'.length ∨ (X.length = X'.length ∧ k ≤ j)

theorem successes_map_ok {α β : Type} (f : α → β) (as : List α) :
    successes (as.map fun a => (a, (.ok (f a) : Res β))) = as.map fun a => (a, f a) := by
  induction as with
  | nil => rfl
  | cons a as ih => exact congrArg ((a, f a) :: ·) ih

/-- A stream with only longer ones before it and no shorter one after it. -/
theorem shortest_of_split {pre post : List Bytes} {X : Bytes} (hpre : ∀ Y ∈ pre, X.length < Y.length)
    (hpost : ∀ Y ∈ post, X.length ≤ Y.length) : Shortest (pre ++ X :: post) pre.length X := by
  refine ⟨by simp, fun j Y hY => ?_⟩
  obtain hj | hj := Nat.lt_or_ge j pre.length
  · rw [List.getElem?_append_left hj] at hY
    exact .inl (hpre Y (List.mem_of_getElem? hY))
  · rw [List.getElem?_append_right hj] at hY
    have hle : X.length ≤ Y.length := by
      obtain rfl | hafter := List.mem_cons.1 (List.mem_of_getElem? hY)
      · exact Nat.le_refl _
      · exact hpost Y hafter
    exact hle.lt_or_eq.imp_right fun heq => ⟨heq, hj⟩

/-- A trial in which every candidate succeeds ends in the first of its shortest streams. -/
theorem bestOf_map_ok {α : Type} {as : List α} (hne : as ≠ []) (f : α → Bytes) :
    ∃ k a, as[k]? = some a ∧ Shortest (as.map f) k (f a) ∧
      bestOf (as.map fun a => (a, .ok (f a))) = .ok (a, f a) := by
  cases hbest : argmin (fun c => c.2.length) (as.map fun a => (a, f a)) with
  | none => exact absurd (List.map_eq_nil_iff.1 (argmin_eq_none_iff.1 hbest)) hne
  | some c =>
    obtain ⟨pairs, _, hsplit, hpre, hpost⟩ := argmin_spec hbest
    obtain ⟨pre, rest, rfl, rfl, hrest⟩ := List.map_eq_append_iff.1 hsplit
    obtain ⟨a, post, rfl, rfl, rfl⟩ := List.map_eq_cons_iff.1 hrest
    refine ⟨pre.length, a, by simp, ?_, by rw [bestOf, successes_map_ok, hbest]⟩
    rw [List.map_append, List.map_cons, ← List.length_map (as := pre) f]
    exact shortest_of_split (List.forall_mem_map.2 fun b hb => hpre _ (List.mem_map_of_mem hb))
      (List.forall_mem_map.2 fun b hb => hpost _ (List.mem_map_of_mem hb))

/-- Method 4's trials stand in the order of their tags (R345). -/
theorem code_of_getElem? {k : Nat} {v : Variant} (hv : [Variant.delta, .avg, .paeth][k]? = some v) : v.code = k := by
  match k with
  | 0 | 1 | 2 => cases hv; rfl
  | k + 3 => cases hv

theorem variantOf_code (v : Variant) : variantOf (byteOf v.code).toNat = some v := by cases v <;> rfl

theorem variantOf_invalid {b : Byte} (h0 : b ≠ 0) (h1 : b ≠ 1) (h2 : b ≠ 2) : variantOf b.toNat = none := by
  unfold variantOf
  split
  next hb => exact absurd (BitVec.eq_of_toNat_eq hb) h0
  next hb => exact absurd (BitVec.eq_of_toNat_eq hb) h1
  next hb => exact absurd (BitVec.eq_of_toNat_eq hb) h2
  next => rfl

/-! ## Stages -/

theorem zdecode_entropyEnc (P : Params) (st : Strategy) (x : Bytes) : zdecode none (P.entropyEnc st x) = .ok x := by
  unfold Params.entropyEnc
  split
  · exact (Config.platformEncoder _).inverse st x
  · exact zdecode_refStored st x

theorem zdecode_entropyEnc_bind {P : Params} {st : Strategy} {x : Bytes} {f : Bytes → Res Bytes} :
    (zdecode none (P.entropyEnc st x)).bind f = f x := by
  rw [zdecode_entropyEnc]
  rfl

/-- RLE's stream is whole pairs of a count byte and a pixel (R127). -/
theorem length_rle_mod (R : Bytes) (C : Nat) : (rle R C).length % (1 + C) = 0 := by
  have hpair : ∀ q ∈ rlePairs (px R C), (BitVec.ofNat 8 q.1 :: q.2).length = 1 + C := fun q hq => by
    rw [List.length_cons, (mem_rlePairs_px q hq).2.2, Nat.add_comm]
  rw [rle, rlePixels_eq, pairBytes, List.length_flatMap, List.map_congr_left hpair, List.map_const', List.sum_replicate,
    smul_eq_mul, Nat.mul_mod_left]

theorem rleFilterDecode_eq (F : Bytes) (C : Nat) :
    rleFilterDecode F C = if F = [] then .ok [] else filterDecode F (F.length - 1) (1 + C) :=
  if_congr List.length_eq_zero_iff rfl rfl

/-- RFILTDEC finds the width of RFILT's one row from the stream's length (R256). -/
theorem rleFilterDecode_rleFilter (score : Bytes → Nat) {Q : Bytes} {C : Nat} (hQ : Q.length % (1 + C) = 0) :
    rleFilterDecode (rleFilter score Q C) C = .ok Q := by
  have hwidth : Q.length / (1 + C) * (1 + C) = Q.length := Nat.div_mul_cancel (Nat.dvd_of_mod_eq_zero hQ)
  have hlen : (rleFilter score Q C).length = Q.length + 1 := by
    rw [rleFilter, filterAdaptive, List.range_one, List.flatMap_singleton, List.length_cons, length_filterRow,
      length_imageRow (by rw [Nat.zero_add, Nat.one_mul, hwidth]), hwidth]
  have hne : rleFilter score Q C ≠ [] := List.ne_nil_of_length_eq_add_one hlen
  rw [rleFilterDecode_eq, if_neg hne, hlen, Nat.add_sub_cancel, ← hwidth]
  refine (filterRoundTrip Q (Q.length / (1 + C)) 1 (1 + C) (by omega) ?_).2 score
  rw [Nat.mul_one, hwidth]

/-- A method-4 tag over 2 is corrupt (R345). -/
theorem dec4_invalid {P : Params} {b : Byte} (hb : variantOf b.toNat = none) (E : Bytes) (W C : Nat) :
    dec4 P (b :: E) W C = .error .corruptPayload := by
  simp only [dec4, hb]

section
variable {P : Params} (h : P.scratch = none)
include h

theorem zenc_unbounded (st : Strategy) (input x : Bytes) : zenc P st input x = .ok (P.entropyEnc st x) :=
  hold_unbounded h _ _ _

/-- A stage, then an entropy pass. -/
theorem hold_zenc_unbounded (site : Site) (st : Strategy) (input x : Bytes) :
    (hold P site input (.ok x) >>= zenc P st input) = .ok (P.entropyEnc st x) := by
  rw [hold_unbounded h]
  exact zenc_unbounded h st input x

/-! ## Encode pipelines -/

theorem enc1_unbounded (R : Bytes) (C : Nat) : enc1 P R C = .ok (P.entropyEnc .default (rle R C)) :=
  hold_zenc_unbounded h _ _ R _

theorem enc2_unbounded (R : Bytes) : enc2 P R = .ok (P.entropyEnc .default R) := zenc_unbounded h _ R R

theorem enc3_unbounded (R : Bytes) : ∃ k st,
    Shortest [P.entropyEnc .default R, P.entropyEnc .filtered R, P.entropyEnc .huffmanOnly R] k (P.entropyEnc st R) ∧
      enc3 P R = .ok (P.entropyEnc st R) := by
  obtain ⟨k, st, -, hshort, hbest⟩ := bestOf_map_ok (List.cons_ne_nil Strategy.default [.filtered, .huffmanOnly])
    fun st => P.entropyEnc st R
  refine ⟨k, st, hshort, ?_⟩
  simp only [List.map_cons, List.map_nil] at hbest
  simp only [enc3, zenc_unbounded h, hbest]
  rfl

theorem enc4_unbounded (R : Bytes) (W C : Nat) : ∃ v : Variant,
    Shortest ([Variant.delta, .avg, .paeth].map fun v => P.entropyEnc .default (pred v R W C)) v.code
      (P.entropyEnc .default (pred v R W C)) ∧
    enc4 P R W C = .ok (byteOf v.code :: P.entropyEnc .default (pred v R W C)) := by
  have htrial (v : Variant) : enc4Trial P R W C v = .ok (P.entropyEnc .default (pred v R W C)) :=
    hold_zenc_unbounded h _ _ R _
  obtain ⟨k, v, hv, hshort, hbest⟩ := bestOf_map_ok (List.cons_ne_nil Variant.delta [.avg, .paeth])
    fun v => P.entropyEnc .default (pred v R W C)
  obtain rfl := code_of_getElem? hv
  refine ⟨v, hshort, ?_⟩
  simp only [List.map_cons, List.map_nil] at hbest
  simp only [enc4, htrial, hbest]
  rfl

theorem enc5_unbounded (R : Bytes) (C : Nat) : enc5 P R C = (pal R C).map (P.entropyEnc .default) := by
  unfold enc5
  cases pal R C with
  | error k => rfl
  | ok t => exact hold_zenc_unbounded h _ _ R t

theorem enc6_unbounded (R : Bytes) (W H C : Nat) :
    enc6 P R W H C = .ok (P.entropyEnc .default (filterAdaptive P.score R W H C)) := hold_zenc_unbounded h _ _ R _

theorem enc7_unbounded (R : Bytes) (W H C : Nat) : ∃ k t,
    Shortest ([Filter.none, .sub, .up, .average, .paeth].map fun t => P.entropyEnc .default (filterUniform t R W H C)) k
      (P.entropyEnc .default (filterUniform t R W H C)) ∧
    enc7 P R W H C = .ok (P.entropyEnc .default (filterUniform t R W H C)) := by
  have htrial (t : Filter) : enc7Trial P R W H C t = .ok (P.entropyEnc .default (filterUniform t R W H C)) :=
    hold_zenc_unbounded h _ _ R _
  obtain ⟨k, t, -, hshort, hbest⟩ := bestOf_map_ok (List.cons_ne_nil Filter.none [.sub, .up, .average, .paeth])
    fun t => P.entropyEnc .default (filterUniform t R W H C)
  refine ⟨k, t, hshort, ?_⟩
  simp only [List.map_cons, List.map_nil] at hbest
  simp only [enc7, htrial, hbest]
  rfl

theorem enc8_unbounded (R : Bytes) (C : Nat) :
    enc8 P R C = .ok (P.entropyEnc .default (rleFilter P.score (rle R C) C)) := by
  rw [enc8, hold_unbounded h]
  exact hold_zenc_unbounded h _ _ R _

theorem enc9_unbounded (R : Bytes) (W H C : Nat) : enc9 P R W H C =
    .ok (P.entropyEnc .default (P.entropyEnc .default (filterAdaptive P.score R W H C))) := by
  rw [enc9, enc6_unbounded h]
  exact zenc_unbounded h _ R _

theorem enc10_unbounded {R X : Bytes} {W H C : Nat} (hX : enc7 P R W H C = .ok X) :
    enc10 P R W H C = .ok (P.entropyEnc .default X) := by
  rw [enc10, hX]
  exact zenc_unbounded h _ R X

/-! ## Decode pipelines -/

theorem dec1_unbounded (Y : Bytes) (C : Nat) : dec1 P Y C = (zdecode none Y).bind fun Q => rleInv Q C := by
  simp only [dec1, hold_unbounded h, h]
  rfl

theorem dec2_unbounded (Y : Bytes) : dec2 P Y = zdecode none Y := by rw [dec2, h]

/-- A method-4 payload of a valid tag is its variant's (R345). -/
theorem dec4_variant {b : Byte} {v : Variant} (hv : variantOf b.toNat = some v) (E : Bytes) (W C : Nat) :
    dec4 P (b :: E) W C = (zdecode none E).map fun X => predInv v X W C := by
  simp only [dec4, hv]
  exact dec4Body_unbounded h v E W C

theorem dec5_unbounded (Y : Bytes) (C : Nat) : dec5 P Y C = (zdecode none Y).bind fun T => palInv T C := by
  simp only [dec5, hold_unbounded h, h]
  rfl

theorem dec6_unbounded (Y : Bytes) (W C : Nat) :
    dec6 P Y W C = (zdecode none Y).bind fun F => filterDecode F (W * C) C := by
  simp only [dec6, hold_unbounded h, h]
  rfl

theorem dec8_unbounded (Y : Bytes) (C : Nat) :
    dec8 P Y C = ((zdecode none Y).bind fun F => rleFilterDecode F C).bind fun Q => rleInv Q C := by
  simp only [dec8, hold_unbounded h, h]
  cases zdecode none Y <;> rfl

theorem dec9_unbounded (Y : Bytes) (W C : Nat) :
    dec9 P Y W C = ((zdecode none Y).bind (zdecode none)).bind fun F => filterDecode F (W * C) C := by
  simp only [dec9, hold_unbounded h, h]
  cases zdecode none Y <;> rfl

/-! ## Round trips -/

/-- Every method's payload decodes to the bytes it was made of, stage by stage (R352). -/
theorem decMethod_encMethod {m : Nat} {R Y : Bytes} {W H C : Nat} (hC : 0 < C) (hR : R.length = W * H * C)
    (hY : encMethod P m R W H C = .ok Y) : decMethod P m Y W C = .ok R := by
  have hpixels : R.length % C = 0 := hR ▸ Nat.mul_mod_left _ C
  obtain ⟨huniform, hadaptive⟩ := filterRoundTrip R W H C hC hR
  unfold encMethod at hY
  split at hY
  case h_1 =>
    cases hY
    rfl
  case h_2 =>
    cases (enc1_unbounded h R C).symm.trans hY
    exact (dec1_unbounded h _ C).trans (zdecode_entropyEnc_bind.trans (rleRoundTrip R C hC hpixels))
  case h_3 =>
    cases (enc2_unbounded h R).symm.trans hY
    exact (dec2_unbounded h _).trans (zdecode_entropyEnc P _ R)
  case h_4 =>
    obtain ⟨k, st, -, henc⟩ := enc3_unbounded h R
    cases henc.symm.trans hY
    exact (dec2_unbounded h _).trans (zdecode_entropyEnc P st R)
  case h_5 =>
    obtain ⟨v, -, henc⟩ := enc4_unbounded h R W C
    cases henc.symm.trans hY
    rw [decMethod, dec4_variant h (variantOf_code v), zdecode_entropyEnc]
    exact congrArg Except.ok (predInv_pred v R hC)
  case h_6 =>
    have hdistinct : distinct R C ≤ 256 := by
      refine Nat.not_lt.1 fun hd => ?_
      cases (enc5_overflow_iff.2 hd).symm.trans hY
    obtain ⟨S, hS, hinv⟩ := paletteRoundTrip R C hC hpixels hdistinct
    rw [enc5_unbounded h, hS] at hY
    cases hY
    exact (dec5_unbounded h _ C).trans (zdecode_entropyEnc_bind.trans hinv)
  case h_7 =>
    cases (enc6_unbounded h R W H C).symm.trans hY
    exact (dec6_unbounded h _ W C).trans (zdecode_entropyEnc_bind.trans (hadaptive P.score))
  case h_8 =>
    obtain ⟨k, t, -, henc⟩ := enc7_unbounded h R W H C
    cases henc.symm.trans hY
    exact (dec6_unbounded h _ W C).trans (zdecode_entropyEnc_bind.trans (huniform t))
  case h_9 =>
    cases (enc8_unbounded h R C).symm.trans hY
    rw [decMethod, dec8_unbounded h, zdecode_entropyEnc_bind, rleFilterDecode_rleFilter P.score (length_rle_mod R C)]
    exact rleRoundTrip R C hC hpixels
  case h_10 =>
    cases (enc9_unbounded h R W H C).symm.trans hY
    rw [decMethod, dec9_unbounded h, zdecode_entropyEnc_bind, zdecode_entropyEnc_bind]
    exact hadaptive P.score
  case h_11 =>
    obtain ⟨k, t, -, henc⟩ := enc7_unbounded h R W H C
    cases (enc10_unbounded h henc).symm.trans hY
    rw [decMethod, dec10, dec9_unbounded h, zdecode_entropyEnc_bind, zdecode_entropyEnc_bind]
    exact huniform t
  case h_12 => cases hY

end

/-- Settles O59: the equations of the pipelines, clause by clause, and the round trips. -/
theorem methodRoundTrip : Obligations.MethodRoundTrip := by
  intro P W H C h hch Z shortest
  have hC : 0 < C := by omega
  refine ⟨fun R hR => ?_, fun Y => ?_, fun m R Y _ hR hY => decMethod_encMethod h hC hR hY⟩
  · intro enc Q
    obtain ⟨k3, st, hshort3, henc3⟩ := enc3_unbounded h R
    obtain ⟨v, hshort4, henc4⟩ := enc4_unbounded h R W C
    obtain ⟨k7, t, hshort7, henc7⟩ := enc7_unbounded h R W H C
    exact ⟨rfl, enc1_unbounded h R C, enc2_unbounded h R, ⟨k3, _, hshort3, henc3⟩, ⟨v.code, _, hshort4, henc4⟩,
      enc5_unbounded h R C, enc6_unbounded h R W H C, ⟨k7, _, hshort7, henc7, enc10_unbounded h henc7⟩,
      enc8_unbounded h R C, enc9_unbounded h R W H C⟩
  · intro dec z fromFilter fromRleFilter
    have hrle : fromRleFilter = fun F => rleFilterDecode F C :=
      funext fun F => (rleFilterDecode_eq F C).symm
    rw [hrle]
    refine ⟨rfl, dec1_unbounded h Y C, dec2_unbounded h Y, dec2_unbounded h Y, ?_, ?_, dec5_unbounded h Y C,
      dec6_unbounded h Y W C, dec6_unbounded h Y W C, dec8_unbounded h Y C, dec9_unbounded h Y W C,
      dec9_unbounded h Y W C⟩
    · rintro rfl
      rfl
    · rintro b E rfl
      split_ifs with h0 h1 h2
      · exact dec4_variant h (congrArg (variantOf ·.toNat) h0) E W C
      · exact dec4_variant h (congrArg (variantOf ·.toNat) h1) E W C
      · exact dec4_variant h (congrArg (variantOf ·.toNat) h2) E W C
      · exact dec4_invalid (variantOf_invalid h0 h1 h2) E W C

end Sys2Proof.Machine
end

section
/-! Encode, then decode (45_encoder_selector R390): the container's header and payload, FIT and EXPAND on a whole image,
and the RGBA view of the raw bytes. -/

namespace Sys2Proof.Machine

/-! ## The container -/

/-- The header of a container is what it was made of (R387, 46_decoder R410, R411). -/
theorem parseHeader_container {W H m : Nat} (hW : W ≤ 65535) (hH : H ≤ 65535) (hm : m ≤ 10) (alpha : Bool)
    (Y : Bytes) : parseHeader (container W H m alpha Y) = .ok { w := W, h := H, method := m, alpha := alpha } := by
  have hlen : ¬(container W H m alpha Y).length < 7 := Nat.not_lt.2 (Nat.le_add_left 7 Y.length)
  have hmagic : ¬((container W H m alpha Y).length < 2 ∨ (container W H m alpha Y).getD 0 0 ≠ 0x50 ∨
      (container W H m alpha Y).getD 1 0 ≠ 0x58) := by
    rintro (h | h | h)
    · omega
    · exact h rfl
    · exact h rfl
  have hw : natAt (container W H m alpha Y) 2 + 256 * natAt (container W H m alpha Y) 3 = W := u16le_value hW
  have hh : natAt (container W H m alpha Y) 4 + 256 * natAt (container W H m alpha Y) 5 = H := u16le_value hH
  have halpha : alpha.toNat ≤ 1 := Bool.toNat_le alpha
  have hflags : natAt (container W H m alpha Y) 6 = m + 16 * alpha.toNat := Nat.mod_eq_of_lt (by omega)
  have hmethod : (m + 16 * alpha.toNat) % 16 = m := by omega
  have hbit : (m + 16 * alpha.toNat) / 16 % 2 = alpha.toNat := by omega
  simp only [parseHeader, if_neg hmagic, if_neg hlen, hw, hh, hflags, hmethod, hbit, if_neg (Nat.not_lt.2 hm),
    Bool.toNat_eq_one, Bool.decide_eq_true]

theorem drop_container (W H m : Nat) (alpha : Bool) (Y : Bytes) : (container W H m alpha Y).drop 7 = Y := rfl

/-! ## FIT and EXPAND -/

/-- FIT keeps an image of exactly N pixels (46_decoder R415). -/
theorem fit_of_length {X : Bytes} {N C : Nat} (hX : X.length = N * C) : fit X N C = (X, false) := by
  have htake : X.take (N * C) = X := List.take_of_length_le (Nat.le_of_eq hX)
  have hpad : decide (X.length ≠ N * C) = false := decide_eq_false (not_not_intro hX)
  simp only [fit, if_pos (Nat.le_of_eq hX.symm), htake, hpad]

/-- EXPAND keeps the pixels where the output has the stored channels (46_decoder R416). -/
theorem expand_same (Y : Bytes) (C : Nat) : expand Y C C = Y := if_pos rfl

/-- EXPAND of three channels to four puts alpha 255 after each pixel (46_decoder R416). -/
theorem expand_rgba (Y : Bytes) : expand Y 3 4 = (px Y 3).flatMap fun p => p ++ [255] := if_neg (by decide)

/-- The full decoder gives back the image that a container's payload was made of, expanded to the output channels. -/
theorem decodeFull_container {P : Params} {W H m cap : Nat} {alpha outRgba : Bool} {R Y : Bytes} {hdr : Hdr}
    (hhdr : hdr = { w := W, h := H, method := m, alpha := alpha }) (hW : W ≤ 65535) (hH : H ≤ 65535) (hm : m ≤ 10)
    (hmax : W * H ≤ P.maxPixels) (hcap : W * H * outChannels outRgba alpha ≤ cap) (hR : R.length = W * H * hdr.ch)
    (hdec : decMethod P m Y W hdr.ch = .ok R) :
    decodeFull P (container W H m alpha Y) outRgba cap =
      .ok { data := expand R hdr.ch (outChannels outRgba alpha), hdr := hdr, padded := false } := by
  subst hhdr
  have hfit := fit_of_length hR
  rw [decodeFull_of_checks (parseHeader_container hW hH hm alpha Y) hmax hcap]
  split_ifs with hempty
  · have hnil : R = [] := List.eq_nil_of_length_eq_zero (by rw [hR, show W * H = 0 from hempty, Nat.zero_mul])
    have hexpand : ∀ C OC, expand [] C OC = [] := fun C OC => ite_self _
    rw [hnil, hexpand]
  · rw [drop_container, hdec]
    simp only [stageFailure, Except.map, decodedPixels, hfit]

/-! ## The raw bytes of an image -/

/-- The pixels of a concatenation of pixels are those pixels (00_scope R22). -/
theorem px_flatten {C : Nat} (hC : 0 < C) {T : List Bytes} (hT : ∀ p ∈ T, p.length = C) : px T.flatten C = T := by
  rw [px_of_length hC (length_flatten_pixels hT)]
  refine List.ext_getElem (by rw [List.length_map, List.length_range]) fun k _ hk => ?_
  rw [List.getElem_map, List.getElem_range, slice_flatten hT (List.getElem?_eq_getElem hk)]

/-- The pixels of the stripped buffer are the stripped pixels (R380). -/
theorem px_stripAlpha (B : Bytes) : px (stripAlpha B) 3 = (px B 4).map fun p => p.take 3 := by
  refine px_flatten (by decide) (List.forall_mem_map.2 fun p hp => ?_)
  rw [List.length_take, length_of_mem_px hp]
  rfl

/-- Every pixel of a buffer without alpha ends in 255 (R380). -/
theorem take_append_opaque {B p : Bytes} (hB : hasAlpha B = false) (hp : p ∈ px B 4) : p.take 3 ++ [255] = p := by
  have hlen : p.length = 4 := length_of_mem_px hp
  have hlast : p[3] = 255 := by
    have h := List.any_eq_false.1 hB p hp
    rwa [bne_iff_ne, not_not, List.getD_eq_getElem p 255 (by omega)] at h
  rw [← hlast, List.take_append_getElem, List.take_of_length_le (Nat.le_of_eq hlen)]

/-- EXPAND puts back the alpha bytes that RAW strips from an opaque image. -/
theorem expand_stripAlpha {B : Bytes} (hB : B.length % 4 = 0) (hopaque : hasAlpha B = false) :
    expand (stripAlpha B) 3 4 = B := by
  rw [expand_rgba, px_stripAlpha, List.flatMap_map, List.flatMap_congr fun p hp => take_append_opaque hopaque hp,
    List.flatMap_id', flatten_px hB]

/-- The stored channels are those that the alpha flag implies (R380, 46_decoder R411). -/
theorem raw_ch (B : Bytes) (c : Nat) : (raw B c).ch = if (raw B c).alpha = true then 4 else 3 := by
  unfold raw
  split
  · rfl
  · split <;> rfl

/-- The raw bytes are the image's pixels in the stored channels (R380). -/
theorem length_raw {B : Bytes} {c N : Nat} (hc : c = 3 ∨ c = 4) (hB : B.length = N * c) :
    (raw B c).bytes.length = N * (raw B c).ch := by
  by_cases hkept : (raw B c).alpha = true ∨ c = 3
  · obtain ⟨hbytes, hch⟩ := raw_unchanged hkept
    rw [hbytes, hch, hB]
  · obtain ⟨halpha, hc3⟩ := not_or.1 hkept
    obtain rfl := hc.resolve_left hc3
    obtain ⟨hch, hbytes⟩ := raw_opaque rfl (Bool.eq_false_iff.2 halpha)
    have hpixel : ∀ p ∈ px B 4, (p.take 3).length = 3 := fun p hp => by
      rw [List.length_take, length_of_mem_px hp]
      rfl
    rw [hch, hbytes, stripAlpha, List.length_flatMap, List.map_congr_left hpixel, List.map_const',
      List.sum_replicate_nat, px_of_length (by decide) hB, List.length_map, List.length_range]

/-- With OUT_RGBA 1 a four-channel image comes back as it was, with alpha or opaque. -/
theorem expand_raw_four {B : Bytes} (hB : B.length % 4 = 0) : expand (raw B 4).bytes (raw B 4).ch 4 = B := by
  cases halpha : (raw B 4).alpha with
  | true =>
    obtain ⟨hbytes, hch⟩ := raw_unchanged (.inl halpha)
    rw [hbytes, hch, expand_same]
  | false =>
    obtain ⟨hch, hbytes⟩ := raw_opaque rfl halpha
    have hopaque : hasAlpha B = false := Bool.eq_false_iff.2 fun h => by
      cases halpha.symm.trans (raw_alpha_iff.2 ⟨rfl, h⟩)
    rw [hch, hbytes, expand_stripAlpha hB hopaque]

/-! ## The statement -/

/-- Settles O60: the payload decodes to the raw bytes by its method's round trip, and EXPAND undoes RAW. -/
theorem encodeThenDecode : Obligations.EncodeThenDecode := by
  intro P m B Y W H inCh cap outRgba hscratch hm hin hW hH hmax hB hY hcap
  have hch : Hdr.ch { w := W, h := H, method := m, alpha := (raw B inCh).alpha } = (raw B inCh).ch :=
    (raw_ch B inCh).symm
  have hlen : (raw B inCh).bytes.length = W * H * (raw B inCh).ch := length_raw hin hB
  have hpos : 0 < (raw B inCh).ch := by obtain h | h := raw_ch_cases B inCh <;> omega
  have hdec := decMethod_encMethod hscratch hpos hlen hY
  have hfull := decodeFull_container rfl hW hH hm hmax hcap (by rw [hch, hlen]) (by rw [hch, hdec])
  rw [hch] at hfull
  refine ⟨_, hfull, rfl, ?_, ?_, ?_⟩
  · rintro rfl
    have hOC : outChannels false (raw B inCh).alpha = (raw B inCh).ch := by
      simp only [raw_ch, outChannels, Bool.false_eq_true, false_or]
    rw [hOC, expand_same]
  · rintro rfl rfl
    exact expand_raw_four (hB ▸ Nat.mul_mod_left _ 4)
  · rintro rfl rfl
    exact expand_rgba B

end Sys2Proof.Machine
end

section
/-! The container's header and the decoder's own checks (46_decoder R410 to R417): what the header parser makes of a
source, the decoder where a check fails, and the pixels that FIT keeps and adds. -/

namespace Sys2Proof.Machine

/-! ## The header parser -/

/-- The magic check passes exactly on the sources that begin with the two magic bytes (R410). -/
theorem magic_fails_iff (S : Bytes) :
    (S.length < 2 ∨ S.getD 0 0 ≠ 0x50 ∨ S.getD 1 0 ≠ 0x58) ↔ ¬∃ tl, S = 0x50 :: 0x58 :: tl := by
  match S with
  | [] => simp
  | [_] => simp
  | a :: b :: tl =>
    simp only [List.length_cons, List.getD_cons_zero, List.getD_cons_succ, List.cons.injEq, exists_and_left, exists_eq',
      and_true]
    rw [or_iff_right (by omega), not_and_or]

theorem parseHeader_bad_magic {S : Bytes} (h : ¬∃ tl, S = 0x50 :: 0x58 :: tl) : parseHeader S = .error .badMagic :=
  if_pos ((magic_fails_iff S).2 h)

/-- After the magic, a header is cut short or its flags byte decides (R410). -/
theorem parseHeader_magic (tl : Bytes) :
    parseHeader (0x50 :: 0x58 :: tl) =
      if tl.length < 5 then .error .truncatedPayload
      else if 10 < natAt tl 4 % 16 then .error .unsupportedMethod
      else .ok
        { w := natAt tl 0 + 256 * natAt tl 1
          h := natAt tl 2 + 256 * natAt tl 3
          method := natAt tl 4 % 16
          alpha := decide (natAt tl 4 / 16 % 2 = 1) } := by
  have hmagic := mt (magic_fails_iff (0x50 :: 0x58 :: tl)).1 (not_not_intro ⟨tl, rfl⟩)
  have hlength : (0x50 :: 0x58 :: tl : Bytes).length < 7 ↔ tl.length < 5 := by
    simp only [List.length_cons]
    omega
  simp only [parseHeader, if_neg hmagic, hlength]
  rfl

/-- The alpha flag is bit 4 of the flags byte (R410). -/
theorem alpha_bit (f : Byte) : decide (f.toNat / 16 % 2 = 1) = f.getLsbD 4 :=
  (Nat.testBit_eq_decide_div_mod_eq (x := f.toNat) (i := 4)).symm

/-- Settles O39: the magic, then the length, then the method id. -/
theorem headerParse : Obligations.HeaderParse := by
  intro S
  refine ⟨parseHeader_bad_magic, ?_, ?_⟩
  · rintro tl rfl hshort
    rw [parseHeader_magic, if_pos hshort]
  · rintro w0 w1 h0 h1 f Y rfl
    have hwhole : ¬(w0 :: w1 :: h0 :: h1 :: f :: Y).length < 5 := Nat.not_lt.2 (Nat.le_add_left 5 Y.length)
    have hparse := parseHeader_magic (w0 :: w1 :: h0 :: h1 :: f :: Y)
    rw [if_neg hwhole] at hparse
    refine ⟨fun hm => hparse.trans (if_pos hm), fun hm => ?_⟩
    rw [← alpha_bit]
    exact hparse.trans (if_neg (Nat.not_lt.2 hm))

/-! ## The decoder's checks -/

section
variable {P : Params} {S : Bytes} {outRgba : Bool} {dstCap : Nat} {hdr : Hdr}

/-- More than MAX_PIXELS is refused before the capacity is looked at (R412, R417). -/
theorem decodeFull_over_maxPixels (h : parseHeader S = .ok hdr) (hmax : P.maxPixels < hdr.w * hdr.h) :
    decodeFull P S outRgba dstCap = .error { kind := .dimensionError, mayWrite := false } := by
  have hcovers : ¬coversAll hdr.method = false := Bool.noConfusion
  rw [decodeFull, decodeContainer_parsed h, if_neg hcovers, if_pos hmax]

/-- An image within MAX_PIXELS that the window cannot hold is refused (R412, R417). -/
theorem decodeFull_over_capacity (h : parseHeader S = .ok hdr) (hmax : hdr.w * hdr.h ≤ P.maxPixels)
    (hcap : dstCap < hdr.w * hdr.h * outChannels outRgba hdr.alpha) :
    decodeFull P S outRgba dstCap = .error { kind := .bufferError, mayWrite := false } := by
  have hcovers : ¬coversAll hdr.method = false := Bool.noConfusion
  rw [decodeFull, decodeContainer_parsed h, if_neg hcovers, if_neg (Nat.not_lt.2 hmax), if_pos hcap]

end

/-- A report of a failure that writes nothing, neither memory nor candidates, completes as a rejection (60_exceptions
R455). -/
theorem complete_keeping_rejected (l : Latch) (k : ErrKind) (s : State) :
    Rejected k s (complete l { cand := none, verdict := .failure k false } s) :=
  failKeeping_rejected k s

section
variable {s : State} {l : Latch} {k : ErrKind} (h : Ready checksWindows l s)
include h

/-- A DECODE whose decoder fails in a header check or a stage fails alike and leaves CAND_SIZE (R166). -/
theorem exec_decode_fails (hfails : decodeFull s.cfg (source l s) l.outRgba l.dstCap.toNat =
      .error { kind := k, mayWrite := true }) :
    ∃ t, exec .decode s = .next t ∧ t.candSize = s.candSize ∧ FailsAfterChecks l k s t := by
  refine ⟨_, h.runCommand_eq ruleDecode, complete_candSize l _ s, complete_failure h.memory ?_⟩
  rw [ruleDecode, hfails, decodeVerdict]

/-- A DECODE whose decoder fails in a check that writes nothing is rejected (R412). -/
theorem exec_decode_rejected (hfails : decodeFull s.cfg (source l s) l.outRgba l.dstCap.toNat =
      .error { kind := k, mayWrite := false }) : ∃ t, exec .decode s = .next t ∧ Rejected k s t := by
  refine ⟨_, h.runCommand_eq ruleDecode, ?_⟩
  rw [ruleDecode, hfails, decodeVerdict]
  exact complete_keeping_rejected l k s

end

/-- Settles O38: each failure of the decoder, and whether it may write. -/
theorem decodeChecks : Obligations.DecodeChecks := by
  intro s l h
  refine ⟨fun k hparse => ?_, fun hdr hparse hmax => ?_, fun hdr hparse hmax hcap => ?_⟩
  · exact exec_decode_fails h (decodeContainer_bad_header hparse)
  · exact exec_decode_rejected h (decodeFull_over_maxPixels hparse hmax)
  · exact exec_decode_rejected h (decodeFull_over_capacity hparse hmax hcap)

/-! ## FIT -/

theorem slice_take {s : Bytes} {a n m : Nat} (h : a + n ≤ m) : slice (s.take m) a n = slice s a n := by
  rw [slice, slice, List.drop_take, List.take_take, Nat.min_eq_left (by omega)]

theorem slice_append_right {s : Bytes} {a : Nat} (h : s.length ≤ a) (t : Bytes) (n : Nat) :
    slice (s ++ t) a n = slice t (a - s.length) n := by
  rw [slice, slice, List.drop_append, List.drop_of_length_le h, List.nil_append]

/-- Pixel `j` of copies of one pixel is that pixel. -/
theorem slice_repeatBytes {p : Bytes} {C j k : Nat} (hp : p.length = C) (hj : j < k) :
    slice (repeatBytes p k) (j * C) C = p := by
  have hentries : ∀ q ∈ List.replicate k p, q.length = C := fun q hq => List.eq_of_mem_replicate hq ▸ hp
  rw [repeatBytes_eq_flatten, slice_flatten hentries (List.getElem?_replicate_of_lt hj)]

/-- The bytes of the whole pixels (00_scope R22). -/
theorem length_take_whole (X : Bytes) (C : Nat) : (X.take (X.length / C * C)).length = X.length / C * C :=
  List.length_take_of_le (Nat.div_mul_le_self _ _)

/-- FIT of enough bytes drops the rest (R415). -/
theorem fit_long {X : Bytes} {N C : Nat} (h : N * C ≤ X.length) : (fit X N C).1 = X.take (N * C) := if_pos h

/-- FIT of too few bytes keeps the whole pixels and appends the missing ones (R415). -/
theorem fit_short {X : Bytes} {N C : Nat} (h : X.length < N * C) :
    (fit X N C).1 = X.take (X.length / C * C) ++ repeatBytes (fillPixel C) (N - X.length / C) :=
  if_neg (Nat.not_le.2 h)

/-- FIT keeps a pixel that stands whole in the bytes (R415). -/
theorem slice_fit_present {X : Bytes} {N C j : Nat} (hC : 0 < C) (hj : j < N) (hwhole : (j + 1) * C ≤ X.length) :
    slice (fit X N C).1 (j * C) C = slice X (j * C) C := by
  have hend : j * C + C = (j + 1) * C := (Nat.succ_mul j C).symm
  obtain hshort | hlong := Nat.lt_or_ge X.length (N * C)
  · have hkept : j * C + C ≤ X.length / C * C :=
      hend.trans_le (Nat.mul_le_mul_right C ((Nat.le_div_iff_mul_le hC).2 hwhole))
    rw [fit_short hshort, slice_append_left (hkept.trans_eq (length_take_whole X C).symm), slice_take hkept]
  · rw [fit_long hlong, slice_take (hend.trans_le (Nat.mul_le_mul_right C hj))]

/-- FIT puts the opaque black pixel where the bytes end before the pixel does (R415). -/
theorem slice_fit_missing {X : Bytes} {N C j : Nat} (hC : C = 3 ∨ C = 4) (hj : j < N)
    (hmissing : X.length < (j + 1) * C) : slice (fit X N C).1 (j * C) C = fillPixel C := by
  have hpos : 0 < C := by omega
  have hshort : X.length < N * C := hmissing.trans_le (Nat.mul_le_mul_right C hj)
  have hwhole : X.length / C ≤ j := Nat.le_of_lt_succ ((Nat.div_lt_iff_lt_mul hpos).2 hmissing)
  rw [fit_short hshort, slice_append_right ((length_take_whole X C).trans_le (Nat.mul_le_mul_right C hwhole)),
    length_take_whole, ← Nat.sub_mul, slice_repeatBytes (length_fillPixel hC) (Nat.sub_lt_sub_right hwhole hj)]

/-- Settles O40: each pixel is one that stands whole in the bytes, or the fill pixel. -/
theorem padOrTruncate : Obligations.PadOrTruncate := by
  intro X N C hC
  refine ⟨length_fit X N hC, rfl, fun j hj => ?_⟩
  split
  next hwhole => exact slice_fit_present (by omega) hj hwhole
  next hmissing => exact slice_fit_missing hC hj (Nat.not_le.1 hmissing)

end Sys2Proof.Machine
end

section
/-! Progress (70_reset_and_hazards R505): a completion leaves the engine IDLE with DONE set, whatever memory holds, and
with no input left the running command's complete step is the next transition (log 3). -/

namespace Sys2Proof.Machine

/-! ## What a completion reaches -/

/-- A command has ended: the engine is IDLE and DONE is set (10_state R40, 40_commands R161). -/
structure Completed (t : State) : Prop where
  phase : t.phase = .idle
  done : t.status.done = true

theorem rejectCommand_completed (l : Latch) (tainted : Bool) (k : ErrKind) (s : State) :
    Completed (rejectCommand l tainted k s) := by
  cases tainted with
  | true => exact ⟨completeDrawn_phase l s, rfl⟩
  | false => exact ⟨failKeeping_phase k s, rfl⟩

theorem complete_completed (l : Latch) (rep : Report) (s : State) : Completed (complete l rep s) := by
  obtain ⟨r, -, hc⟩ | ⟨k, -, hc⟩ | ⟨k, -, hc⟩ := complete_cases l rep s <;> rw [hc]
  · exact ⟨succeed_phase l r _, rfl⟩
  · exact ⟨failDrawing_phase l k _, rfl⟩
  · exact ⟨failKeeping_phase k _, rfl⟩

theorem finishCommand_completed (l : Latch) (tainted : Bool) (rep : Report) (s : State) :
    Completed (finishCommand l tainted rep s) := by
  cases tainted with
  | true => exact ⟨completeDrawn_phase l s, rfl⟩
  | false => exact complete_completed l rep s

/-! ## The complete step of a running command -/

theorem format_eq_formatOf_encode (i : Instr) : i.format = Laws.FormatOfCode.formatOf (Sys2Proof.encode i) := by
  cases i <;> rfl

/-- A command word never decodes to a byte code. -/
theorem format_of_decodeCmd {w : Word} {i : Instr} (hd : decodeCmd w = .instr i) : i.format = .cmd := by
  rw [format_eq_formatOf_encode, (commandWordsUnambiguous w i).1 hd]
  rfl

section
variable {s : State} {l : Latch} {tainted : Bool} (hp : s.phase = .busy l tainted) (hd : l.overDevice s.cfg = false)
include hp hd

/-- With its windows on ordinary memory, a command completes whether its operand checks pass or fail (R163). -/
theorem runCommand_completes (checks : Params → Latch → Res Unit) (rule : Params → Latch → Bytes → Report) :
    ∃ t, runCommand checks rule s = .next t ∧ Completed t := by
  cases hc : checks s.cfg l with
  | error k => exact ⟨_, runCommand_rejects hp hc, rejectCommand_completed l tainted k s⟩
  | ok _ => exact ⟨_, runCommand_ok hp hc hd, finishCommand_completed l tainted _ s⟩

theorem exec_completes {i : Instr} (hfmt : i.format = .cmd) : ∃ t, exec i s = .next t ∧ Completed t := by
  obtain ⟨-, rule, -, hrun⟩ | ⟨hno, -⟩ := exec_form i
  · rw [hrun]
    exact runCommand_completes hp hd _ rule
  · exact absurd hfmt hno

/-- The engine's turn completes the running command, and a word that is no instruction too (R161, R162). -/
theorem engineTurn_completes : ∃ t, engineTurn s = .next t ∧ Completed t := by
  by_cases hinstr : ∃ i, decodeCmd l.word = .instr i
  · obtain ⟨i, hi⟩ := hinstr
    rw [engineTurn_instr hp hi]
    exact exec_completes hp hd (format_of_decodeCmd hi)
  · exact ⟨_, engineTurn_rejects hp (not_exists.1 hinstr), rejectCommand_completed l tainted _ s⟩

end

/-- Settles O27: with no input left the next transition is the engine's turn, which completes the command. -/
theorem progress : Obligations.Progress := by
  intro s l tainted hp hnil hd
  rw [step_eq_engineTurn (.inl ⟨hnil, rfl⟩)]
  obtain ⟨t, ht, hcompleted⟩ := engineTurn_completes (s := { s with inputs := [] }) hp hd
  exact ⟨t, ht, hcompleted.phase, hcompleted.done⟩

end Sys2Proof.Machine
end
